-- ==== Sys2Proof/Word.lean ====
section
/-! DEFINITION. The plainest types of the RN-40 model: the byte, the station number, the rack slot
number and the bit string of the rig link. -/

namespace Sys2Proof

/-- One byte of a frame, a record, a request body or a response (R170). -/
abbrev Byte := BitVec 8

/-- A station number, 0 to 7 (R1). -/
abbrev Station := Fin 8

/-- A carousel slot number, 0 to 59 (R54). -/
abbrev RackSlot := Fin 60

/-- A level of the rig link or of an input line: `true` is recessive or high, `false` is dominant or
low (R19). -/
abbrev Level := Bool

/-- The value of one place of a fixed table replaced. -/
def put {α : Type} {n : Nat} (v : Vector α n) (i : Fin n) (x : α) : Vector α n :=
  v.set i.val x i.isLt

/-- A count that stays at its limit (Conventions, saturation). -/
def satAdd (limit a b : Nat) : Nat := min limit (a + b)

/-- Largest value of a 32-bit counter. -/
def max32 : Nat := 4294967295

end Sys2Proof
end

