-- ==== Sys2Proof/Syntax.lean ====
section
/-! DEFINITION. The names of the manual as types (R170's enumerations and the contents of frames) and the
one inductive of commands, one constructor per row of spec/opcode_table.json. The table gives its rows no
operands; the operands here are the model's reading of the owning rules (log 1). -/

namespace Sys2Proof

/-! ### Enumerations (R170, in its order) -/

inductive Role where
  | mud | handler | head | cab
  deriving DecidableEq, Repr

inductive NodeState where
  | config | listen | running
  deriving DecidableEq, Repr

inductive Freshness where
  | unheard | fresh | stale | lost
  deriving DecidableEq, Repr

inductive HoldReason where
  | driller | flowGain | handlingFault | recovery
  deriving DecidableEq, Repr

inductive HoldState where
  | active | orphaned
  deriving DecidableEq, Repr

inductive LineState where
  | unknown | idle | busy | owner | jammed
  deriving DecidableEq, Repr

inductive MuteCause where
  | faultLimit | clash
  deriving DecidableEq, Repr

inductive DirectiveCode where
  | setLithology | addRemark | markWater | startPump | stopPump | stopTrip
  deriving DecidableEq, Repr

inductive PumpState where
  | off | starting | running | stopping | failed
  deriving DecidableEq, Repr

inductive CircState where
  | stopped | locked | priming | circulating | bleeding
  deriving DecidableEq, Repr

inductive BalanceCondition where
  | normal | loss | gain | degraded
  deriving DecidableEq, Repr

inductive Additive where
  | clay | polymer | lossMaterial | conditioner
  deriving DecidableEq, Repr

inductive SeqState where
  | idle | active | faulted | transitHeld | recover
  deriving DecidableEq, Repr

inductive CycleKind where
  | none | makeup | breakout
  deriving DecidableEq, Repr

/-- The steps of a cycle; "none" of R170 is an absent step. `breakJoint` is BREAK. -/
inductive Step where
  | slips | breakJoint | load | joint | lift | drive | store | release
  deriving DecidableEq, Repr

inductive RodKind where
  | drillRod | collar | stabiliser | reamer | bit | crossover
  deriving DecidableEq, Repr

inductive RodStatus where
  | serviceable | worn
  deriving DecidableEq, Repr

inductive TrackingState where
  | unhomed | tracking | frozen | resync
  deriving DecidableEq, Repr

inductive Lithology where
  | topsoil | clay | silt | sand | gravel | boulder | sandstone | siltstone
  | shale | conglomerate | limestone | weatheredRock | granite | gneiss | basalt | quartzite
  deriving DecidableEq, Repr

inductive Band where
  | soft | medium | hard | extraHard
  deriving DecidableEq, Repr

inductive LithologyOutcome where
  | reclassified | closed | split
  deriving DecidableEq, Repr

inductive ScanState where
  | none | inFlight | clean | fault
  deriving DecidableEq, Repr

/-- Job states; `opened` is OPEN. -/
inductive JobState where
  | noJob | opened | suspended | closed
  deriving DecidableEq, Repr

inductive Activity where
  | held | down | drilling | tripping | connecting | circulating | standby
  deriving DecidableEq, Repr

/-- The status codes of R166. -/
inductive Status where
  | ok | pending | noRequest | truncated | unknown | notRole | roleYielded | badState | badValue
  | busy | held | configLocked | queueFull | notHolding | notOrphaned | slotOccupied | slotEmpty
  | duplicateId | stringFull | stringEmpty | rackEmpty | rackFull | transitEmpty | transitOccupied
  | locked | handlerOpen | suctionLow | handlerHeard | stringNotEmpty | remarksFull | storeBusy
  | noSuchRecord | summaryUnread | accumSaturated
  deriving DecidableEq, Repr

/-- The eighteen attention causes of R167, in bit order. -/
inductive Cause where
  | peerLost | roleYielded | stationClash | linkMuted | linkJammed | holdChanged
  | directiveRefused | pumpFailed | lowSuction | balanceAlarm | returnsAbsent | stepTimeout
  | encoderFault | depthMismatch | storeNearFull | storeFault | retainedLost | accumSaturated
  deriving DecidableEq, Repr

/-! ### Sets -/

/-- A set of roles (R1, R170). -/
structure RoleSet where
  mud : Bool
  handler : Bool
  head : Bool
  cab : Bool
  deriving DecidableEq, Repr

def RoleSet.empty : RoleSet := ⟨false, false, false, false⟩

/-! ### Contents of frames (R36, R171). Numeric fields have the width of their bits on the line. A field of
names whose bits can spell a code that R170 does not list is kept as those bits (log 25). -/

/-- A last directive result (R40): source station, directive code (four bits), result code and field
index. -/
structure DirectiveResult where
  source : Station
  code : BitVec 4
  result : Byte
  field : Byte
  deriving DecidableEq, Repr

/-- PRESENCE. `running` is the node state: true RUNNING, false LISTEN. -/
structure Presence where
  held : RoleSet
  yielded : RoleSet
  running : Bool
  holding : Option HoldReason
  epoch : BitVec 16
  deriving DecidableEq, Repr

/-- MUD_ANNOUNCE. `balance` is B in whole litres, signed. -/
structure MudAnnounce where
  circ : BitVec 3
  condition : BalanceCondition
  returnsAbsent : Bool
  pump1 : BitVec 3
  pump2 : BitVec 3
  flowIn : BitVec 32
  pressure : BitVec 16
  balance : BitVec 24
  gain : BitVec 32
  loss : BitVec 32
  running1 : BitVec 32
  running2 : BitVec 32
  additives : Vector (BitVec 32) 4
  epoch : BitVec 16
  result : Option DirectiveResult
  deriving DecidableEq, Repr

/-- HANDLER_ANNOUNCE. `topRod` is 0 when absent, since no rod has ID 0. -/
structure HandlerAnnounce where
  kind : BitVec 2
  stringOpen : Bool
  permit : Bool
  step : BitVec 4
  length : BitVec 24
  entries : Byte
  topRod : BitVec 16
  remaining : Byte
  makeups : BitVec 32
  breakouts : BitVec 32
  epoch : BitVec 16
  result : Option DirectiveResult
  deriving DecidableEq, Repr

/-- HEAD_ANNOUNCE. -/
structure HeadAnnounce where
  d : BitVec 32
  dmax : BitVec 32
  tracking : TrackingState
  onBottom : Bool
  lithology : Lithology
  rop : BitVec 32
  sequence : BitVec 32
  footage : Vector (BitVec 32) 4
  epoch : BitVec 16
  result : Option DirectiveResult
  deriving DecidableEq, Repr

/-- CAB_ANNOUNCE. -/
structure CabAnnounce where
  jobState : JobState
  activity : BitVec 3
  jobNumber : BitVec 16
  epoch : BitVec 16
  deriving DecidableEq, Repr

/-- One announcement of any of the four kinds. -/
inductive Announcement where
  | mud (a : MudAnnounce)
  | handler (a : HandlerAnnounce)
  | head (a : HeadAnnounce)
  | cab (a : CabAnnounce)
  deriving DecidableEq, Repr

/-- A directive as it stands in the queue and on the line: target role, code and argument, not yet
checked (R38, R39). -/
structure Directive where
  role : Byte
  code : Byte
  arg : List Byte
  deriving DecidableEq, Repr

/-- A frame of the rig link without its source (R22). -/
inductive Frame where
  | holdSet (reason : Byte)
  | holdRelease
  | directive (d : Directive)
  | announce (a : Announcement)
  | presence (p : Presence)
  deriving DecidableEq, Repr

/-- The receive errors of R25. -/
inductive ReceiveError where
  | stuffViolation | unknownKind | lengthAbove48 | lengthNotAllowed | badCrc | missingDelimiter
  deriving DecidableEq, Repr

/-! ### Names of lines and table slots -/

/-- The two pumps (R91). -/
inductive Pump where
  | one | two
  deriving DecidableEq, Repr

/-- The five slots of a peer view entry (R3). -/
inductive SlotName where
  | presence
  | announce (role : Role)
  deriving DecidableEq, Repr

/-- The six discrete inputs of the HANDLER role that the sequencer reads (R70). -/
inductive HandlerInput where
  | slipsSet | jointFree | rodInLoader | jointMade | driveConnected | rodStored
  deriving DecidableEq, Repr

/-! ### Commands -/

/-- One command of the block: one constructor per row of spec/opcode_table.json, in its order. Request
rows carry the fields of their body at the width R170 gives them, unchecked: the request's own rule
refuses what is out of range. -/
inductive Instr where
  /-- `memoryKept`: whether the retained memory survived until this power-on (R180, R181, log 31). -/
  | powerOnReset (memoryKept : Bool)
  /-- The whole bytes clocked in between select low and select high (R164). -/
  | requestDecode (bytes : List Byte)
  /-- The number of whole bytes clocked in a transaction whose first byte is 0x00 (R165). -/
  | responseRead (clocked : Nat)
  | status
  | readAttention
  | clearAttention (causes : BitVec 32)
  | readPeer (station : Byte)
  | hold
  | releaseHold (reason : Byte)
  | clearHold (station : Byte)
  | sendDirective (role code : Byte) (arg : List Byte)
  | unmute
  | reset
  | configure (group : Byte) (values : List Byte)
  | start
  | setClock (day minute : BitVec 16) (second : Byte)
  | registerRod (slot : Byte) (id : BitVec 16) (kind : Byte) (length count : BitVec 16)
  | unregisterRod (slot : Byte)
  | appendString (id : BitVec 16) (kind : Byte) (length count : BitVec 16)
  | setCarousel (index : Byte)
  | correctTally (offset : BitVec 16)
  | clearTally
  | readRack
  | readString
  | makeup
  | breakout
  | tripIn (count : Byte)
  | tripOut (count : Byte)
  | stopTrip
  | resume
  | retryStep
  | abort
  | resolveTransit (destination slot : Byte)
  | confirmRecovery
  | startPump (pump : Byte)
  | stopPump (pump : Byte)
  | unlock
  | confirmBled
  | addAdditive (kind : Byte) (units : BitVec 16)
  | newHole
  | setLithology (lithology : Byte)
  | addRemark (code : Byte)
  | markWater
  | trim (count : BitVec 16)
  | fetchRecord (form : Byte) (sequence : BitVec 32)
  | readCursor
  | verify
  | openJob (number : BitVec 16)
  | suspendJob
  | resumeJob
  | closeJob
  | fetchSummary
  | readMeters
  | addCharge (amount : BitVec 32)
  | frameBegin
  | arbitrationLoss
  | bitFault
  | frameComplete
  | presenceReceived (source : Station) (content : Presence)
  | announcementReceived (source : Station) (content : Announcement)
  | holdSetReceived (source : Station) (reason : Byte)
  | holdReleaseReceived (source : Station)
  | directiveReceived (source : Station) (directive : Directive)
  | frameReceiveError (error : ReceiveError)
  | stationClash
  | idleIntervalComplete
  | lineJammed
  | sendPeriodExpiry
  | slotStale (station : Station) (slot : SlotName)
  | slotLost (station : Station) (slot : SlotName)
  | holdSilenceExpiry (station : Station)
  | listenTimerExpiry
  | timeBaseStep
  | clockSecond
  | secondStep
  | stepTimerExpiry
  | pumpTimerExpiry (pump : Pump)
  | balancePeriodExpiry
  | ropSampleExpiry
  | rotationWaitExpiry
  | verifyScanStep
  | handlerInputChange (input : HandlerInput) (level : Level)
  | carouselPulse
  | pumpRunningChange (pump : Pump) (level : Level)
  | returnPulse
  | strokePulse (pump : Pump)
  | waterPulse
  | rotationPulse
  /-- The new pair of levels of the two quadrature lines (R121). -/
  | encoderLineChange (a b : Level)
  | homeSwitchEdge (closed : Level)
  | headDriveChange (level : Level)
  /-- One sample of channel 0 to 3: the converter's valid mark and the value in mm (R107, R174). -/
  | pitLevelSample (channel : Fin 4) (valid : Bool) (value : BitVec 16)
  /-- One sample of channel 4: the converter's valid mark and the value in kPa (R97, R174). -/
  | pressureSample (valid : Bool) (value : BitVec 16)
  | dominantEdgeSeen
  deriving DecidableEq, Repr

end Sys2Proof
end

