-- ==== Sys2Proof/WellFormed.lean ====
section
/-! DEFINITION. Which commands a sender can form: the lengths that a transaction, a frame or a request body
can have. Everything else about an operand is checked by the command's own rule. -/

namespace Sys2Proof

/-- A directive's argument has 0 to 4 bytes (R38). -/
def Directive.wellFormed (d : Directive) : Bool := d.arg.length ≤ 4

/-- The checks of a command's form.
* a request transaction has a first byte other than 0x00, and a response read clocks at least the byte
  0x00 that makes it one (R164);
* SEND_DIRECTIVE has a body of 2 to 6 bytes, CONFIGURE one of 1 to 66 (section 11.4);
* a DIRECTIVE frame has a payload of 2 to 6 bytes (R171). -/
def Instr.wellFormed : Instr → Bool
  | .requestDecode bytes => match bytes with
    | [] => false
    | b :: _ => b != 0#8
  | .responseRead clocked => 0 < clocked
  | .sendDirective _ _ arg => arg.length ≤ 4
  | .configure _ values => values.length ≤ 65
  | .directiveReceived _ d => d.wellFormed
  | .powerOnReset _ | .status | .readAttention | .clearAttention _ | .readPeer _ | .hold
  | .releaseHold _ | .clearHold _ | .unmute | .reset | .start | .setClock _ _ _
  | .registerRod _ _ _ _ _ | .unregisterRod _ | .appendString _ _ _ _ | .setCarousel _
  | .correctTally _ | .clearTally | .readRack | .readString | .makeup | .breakout | .tripIn _
  | .tripOut _ | .stopTrip | .resume | .retryStep | .abort | .resolveTransit _ _
  | .confirmRecovery | .startPump _ | .stopPump _ | .unlock | .confirmBled | .addAdditive _ _
  | .newHole | .setLithology _ | .addRemark _ | .markWater | .trim _ | .fetchRecord _ _
  | .readCursor | .verify | .openJob _ | .suspendJob | .resumeJob | .closeJob | .fetchSummary
  | .readMeters | .addCharge _ | .frameBegin | .arbitrationLoss | .bitFault | .frameComplete
  | .presenceReceived _ _ | .announcementReceived _ _ | .holdSetReceived _ _
  | .holdReleaseReceived _ | .frameReceiveError _ | .stationClash | .idleIntervalComplete
  | .lineJammed | .sendPeriodExpiry | .slotStale _ _ | .slotLost _ _ | .holdSilenceExpiry _
  | .listenTimerExpiry | .timeBaseStep | .clockSecond | .secondStep | .stepTimerExpiry
  | .pumpTimerExpiry _ | .balancePeriodExpiry | .ropSampleExpiry | .rotationWaitExpiry
  | .verifyScanStep | .handlerInputChange _ _ | .carouselPulse | .pumpRunningChange _ _
  | .returnPulse | .strokePulse _ | .waterPulse | .rotationPulse | .encoderLineChange _ _
  | .homeSwitchEdge _ | .headDriveChange _ | .pitLevelSample _ _ _ | .pressureSample _ _
  | .dominantEdgeSeen => true

end Sys2Proof
end

