-- ==== Sys2Proof/Decode.lean ====
section
/-! DEFINITION. The command a word of the opcode table spells. The table gives none of its rows any bits
(spec/98_reader.md: n_rows_with_fixed 0), so no word spells a command (log 30). The bytes of the station
port and the bits of the rig link and of the sample port are decoded in Machine/Port.lean and
Machine/Wire.lean. -/

namespace Sys2Proof

/-- The command that the `nbits` bits of `w` spell by the table: none, since no row has bits. -/
def decodeTableWord (_nbits _w : Nat) : Option Instr := none

end Sys2Proof
end

