-- ==== Sys2Proof/Config.lean ====
section
/-! DEFINITION. The constants the manual fixes, in the units the model counts in, and the free values:
constants without a body that stand for what the manual leaves unstated. -/

namespace Sys2Proof.Config

/-! ### Time, in bit times of the rig link (8 µs, section 2.1) -/

/-- 10 ms, the step of slot ages and silence ages (R3, R42). -/
def ageStep : Nat := 1250
/-- 20 ms, the pace of the verify scan (R144). -/
def scanStep : Nat := 2500
/-- 100 ms, one step of the node's time base (R76, R91, R102). -/
def tenth : Nat := 12500
/-- 500 ms, the send period (R35). -/
def sendPeriod : Nat := 62500
/-- 1 s: the second step, the clock second and the wait after a rotation pulse (R154, R179, R128). -/
def second : Nat := 125000
/-- 2 s: the listen timer, the balance period and the ROP sample period (R175, R108, R129). -/
def twoSeconds : Nat := 250000
/-- 4.2 ms, the longest frame (R20, R126). -/
def longestFrame : Nat := 525

/-! ### Ages, in steps of 10 ms (R5, R42) -/

def staleAge : Nat := 150
def lostAge : Nat := 1000

/-- 10 s in steps of 100 ms, the pump timer (R91). -/
def pumpTime : Nat := 100

/-! ### Capacities and limits -/

def stringCapacity : Nat := 160
def queueCapacity : Nat := 8
def storeCapacity : Nat := 400
def nearFull : Nat := 360
def faultLimit : Nat := 8
/-- Largest number of mills an accumulator holds (R147, R160). -/
def accLimit : Nat := 2 ^ 47 - 1
/-- Limit of the gain and loss totals, in u (R117). -/
def totalLimit : Nat := 42949672959
/-- Limit of one imbalance, in u (R113). -/
def imbalanceLimit : Int := 2000000000

/-! ### Free values: no body, so nothing can be proved of their value -/

/-- The four bytes by which STATUS shows the instant of a recorded drive rise: R130 names the item and
gives neither a unit nor an origin (log 13). -/
opaque instantCode : Nat → BitVec 32

/-- The second that the NODE part of STATUS shows while the clock is unset (R175, log 13). -/
opaque unsetSecond : BitVec 8

/-- The last seen value that READ_METERS shows for the nth baseline while it is pending (R173, log 13). -/
opaque pendingBaseline : Nat → BitVec 32

end Sys2Proof.Config
end

