-- ==== Sys2Proof/Machine/State.lean ====
section
/-! DEFINITION. The state of one RN-40: every piece of state the manual gives the twelve blocks, as plain
data, one structure per block, with the value each takes after a reset. Outputs and announcement records
are computed from it and have no field of their own (log 26). -/

namespace Sys2Proof.Machine

/-! ### Node supervisor (R175, R176) -/

/-- The NODE configuration group (R1, R167, R176). -/
structure NodeConfig where
  station : Station
  held : RoleSet
  mask : BitVec 32
  deriving DecidableEq, Repr

/-- The MUD configuration group (R90, R106). Areas of inactive pits are kept unused. -/
structure MudConfig where
  pits : Nat
  areas : Vector Nat 4
  waterFactor : Nat
  steel : Nat
  hole : Nat
  deadband : Nat
  gainThreshold : Nat
  lossThreshold : Nat
  displacement1 : Nat
  displacement2 : Nat
  efficiency1 : Nat
  efficiency2 : Nat
  returnsThreshold : Nat
  bleedThreshold : Nat
  suctionPit : Nat
  startWatermark : Nat
  lowWatermark : Nat
  deriving DecidableEq, Repr

/-- The HANDLER configuration group (R53, R76): wear limit and step timeout in seconds. -/
structure HandlerConfig where
  wearLimit : Nat
  stepTimeout : Nat
  deriving DecidableEq, Repr

/-- The HEAD configuration group (R120, R133). -/
structure HeadConfig where
  travelCount : Nat
  micronsPerCount : Nat
  tableHeight : Nat
  resyncTolerance : Nat
  bottomTolerance : Nat
  intervalLength : Nat
  deriving DecidableEq, Repr

/-- One tariff window: start minute and multiplier (R152). -/
structure TariffWindow where
  start : Nat
  multiplier : Nat
  deriving DecidableEq, Repr

/-- The CAB configuration group (R152). -/
structure CabConfig where
  timeRates : Vector Nat 7
  bandRates : Vector Nat 4
  additivePrices : Vector Nat 4
  wearPrice : Nat
  windows : List TariffWindow
  deriving DecidableEq, Repr

/-- The node supervisor: node state, configuration groups, roles yielded, epoch and the retained-memory
marker (R1, R15, R175 to R181). -/
structure Node where
  state : NodeState
  node : Option NodeConfig
  mud : Option MudConfig
  handler : Option HandlerConfig
  head : Option HeadConfig
  cab : Option CabConfig
  yielded : RoleSet
  epoch : BitVec 16
  marker : Bool
  foundInvalid : Bool
  deriving DecidableEq, Repr

/-! ### Time -/

/-- The three values of a set node clock (R179). -/
structure ClockTime where
  day : Nat
  minute : Nat
  second : Nat
  deriving DecidableEq, Repr

/-- The node clock; `time` is none while it is unset. `lastMinute` is the instant of the latest advance of
the minute and the minute shown before it (R155, log 29). -/
structure Clock where
  time : Option ClockTime
  lastMinute : Option (Nat × Nat)
  deriving DecidableEq, Repr

/-- The node's time base: whole tenths of a second and the bit times past the last of them (log 3). -/
structure TimeBase where
  tenths : Nat
  sub : Nat
  deriving DecidableEq, Repr

/-- The instants, in bit times, at which the running periods next expire; none while stopped. -/
structure Timers where
  listen : Option Nat
  send : Option Nat
  balance : Option Nat
  rop : Option Nat
  second : Option Nat
  scan : Option Nat
  clock : Option Nat
  deriving DecidableEq, Repr

/-! ### Input lines (R174) -/

/-- Levels of the input lines. `upSense` is the model's own free value, not the manual's: true when the
pair (A, B) leads A first in the upward sense (R121, log 12). -/
structure Pins where
  slipsSet : Level
  jointFree : Level
  rodInLoader : Level
  jointMade : Level
  handlerDrive : Level
  rodStored : Level
  pump1Run : Level
  pump2Run : Level
  encA : Level
  encB : Level
  home : Level
  headDrive : Level
  upSense : Bool
  deriving DecidableEq, Repr

/-! ### Peer view table (R3) -/

/-- One slot: freshness, age in steps of 10 ms and the last frame stored in it. -/
structure Slot (α : Type) where
  freshness : Freshness
  age : Nat
  content : Option α
  deriving DecidableEq, Repr

/-- One station's entry of the peer view table. -/
structure PeerEntry where
  presence : Slot Presence
  mud : Slot MudAnnounce
  handler : Slot HandlerAnnounce
  head : Slot HeadAnnounce
  cab : Slot CabAnnounce
  deriving DecidableEq, Repr

/-! ### Link controller (R19 to R41) -/

/-- The two hold frames as the hold frame slot keeps them: the reason is taken when the start bit is begun
(R37). -/
inductive HoldFrame where
  | set | release
  deriving DecidableEq, Repr

/-- The kinds currently due (R35). -/
structure Due where
  mud : Bool
  handler : Bool
  head : Bool
  cab : Bool
  presence : Bool
  deriving DecidableEq, Repr

/-- The link controller. `receiving`: a frame whose start bit was seen in IDLE, or whose arbitration was
lost to, is being received (R23). `sending`: the frame in transmission with the content it carries (R36).
-/
structure Link where
  line : LineState
  receiving : Bool
  sending : Option Frame
  mute : Option MuteCause
  faultCount : Nat
  errorCount : Nat
  queue : List Directive
  holdFrame : Option HoldFrame
  holdWaiting : Option HoldFrame
  due : Due
  deriving DecidableEq, Repr

/-- The last directive results of the three job blocks that take directives (R40). -/
structure DirectiveResults where
  mud : Option DirectiveResult
  handler : Option DirectiveResult
  head : Option DirectiveResult
  deriving DecidableEq, Repr

/-! ### Hold set (R42) -/

/-- A set of hold reasons. -/
structure ReasonSet where
  driller : Bool
  flowGain : Bool
  handlingFault : Bool
  recovery : Bool
  deriving DecidableEq, Repr

/-- A hold entry of another station; its reason is the code its frame carried (log 25). -/
structure HoldEntry where
  reason : Byte
  state : HoldState
  silence : Nat
  deriving DecidableEq, Repr

/-- The hold set: the entries of other stations by station number, and this node's local reasons, from
which its own entry is computed. -/
structure Holds where
  others : Vector (Option HoldEntry) 8
  reasons : ReasonSet
  deriving DecidableEq, Repr

/-! ### Rod inventory (R52 to R68) -/

/-- A rod record (R52). -/
structure Rod where
  id : Nat
  kind : RodKind
  length : Nat
  makeups : Nat
  status : RodStatus
  registeredAt : Option Nat
  deriving DecidableEq, Repr

/-- Rack, string (bottom first), transit position, tally correction and carousel index. -/
structure Inventory where
  rack : Vector (Option Rod) 60
  string : List Rod
  transit : Option Rod
  tally : Int
  adjusted : Bool
  carousel : RackSlot
  deriving DecidableEq, Repr

/-! ### Handling sequencer (R69 to R89) -/

/-- Why a cycle is FAULTED (R69). -/
inductive FaultCause where
  | timeout
  | moveRefused (code : Status)
  deriving DecidableEq, Repr

/-- The trip plan (R69, R81). -/
structure TripPlan where
  kind : CycleKind
  remaining : Nat
  faultPause : Bool
  holdPause : Bool
  endCause : Option Status
  deriving DecidableEq, Repr

/-- The cycle marker (R86). -/
structure CycleMarker where
  kind : CycleKind
  step : Step
  state : SeqState
  slot : RackSlot
  rod : Option Nat
  deriving DecidableEq, Repr

/-- The handling sequencer. `timer` counts steps of 100 ms. -/
structure Sequencer where
  state : SeqState
  kind : CycleKind
  step : Option Step
  slot : Option RackSlot
  fault : Option FaultCause
  timer : Nat
  plan : TripPlan
  lockedMark : Bool
  makeups : Nat
  breakouts : Nat
  marker : Option CycleMarker
  deriving DecidableEq, Repr

/-! ### Circulation controller (R90 to R105) -/

/-- One pump: state, timer in steps of 100 ms, running seconds and their tenths (R91, R102). -/
structure PumpRecord where
  state : PumpState
  timer : Nat
  seconds : Nat
  tenths : Nat
  deriving DecidableEq, Repr

structure Circulation where
  pump1 : PumpRecord
  pump2 : PumpRecord
  state : CircState
  bled : Nat
  absent : Nat
  returnsAbsent : Bool
  pressure : Nat
  heldSamples : Nat
  returns : Nat
  strokes1 : Nat
  strokes2 : Nat
  flowIn : Nat
  additives : Vector Nat 4
  deriving DecidableEq, Repr

/-! ### Balance unit (R106 to R119) -/

/-- A pit's level record (R107). -/
structure PitRecord where
  level : Option Nat
  held : Bool
  holdEnded : Bool
  inUse : Option Nat
  deriving DecidableEq, Repr

/-- One slot of the window (R114). -/
structure WindowSlot where
  value : Int
  degraded : Bool
  deriving DecidableEq, Repr

structure Balance where
  pits : Vector PitRecord 4
  prevD : Nat
  prevH : Nat
  depthHeld : Bool
  prevOwner : Option Station
  steelResidue : Int
  holeResidue : Int
  water : Nat
  window : Vector WindowSlot 15
  position : Fin 15
  sum : Int
  last : Int
  lastSaturated : Bool
  underlying : BalanceCondition
  announced : BalanceCondition
  gainTotal : Nat
  lossTotal : Nat
  deriving DecidableEq, Repr

/-! ### Depth tracker (R120 to R131) -/

/-- The depth tracker. `driveRise` and `rotation` are instants in bit times; `rotation` stands while the
second after the latest rotation pulse runs. -/
structure Depth where
  count : Nat
  tracking : TrackingState
  d : Nat
  dmax : Nat
  advance : Nat
  jumpHeld : Bool
  driveRise : Option Nat
  lastL : Nat
  rotation : Option Nat
  onBottom : Bool
  ring : Vector Nat 30
  ringPos : Fin 30
  filled : Nat
  prevDmax : Nat
  footage : Vector Nat 4
  deriving DecidableEq, Repr

/-! ### Strata log (R132 to R146) -/

/-- A time as recorded: day count and minute of day; none is unset (R170). -/
abbrev TimeStamp := Option (Nat × Nat)

/-- The flags of an interval or record (R133, R172). -/
structure StrataFlags where
  water : Bool
  depthMismatch : Bool
  mudGap : Bool
  balanceDegraded : Bool
  overrun : Bool
  storeFault : Bool
  deriving DecidableEq, Repr

/-- A record without sequence number and CRC (R137, R139). -/
structure StrataBody where
  jobNumber : Nat
  top : Nat
  bottom : Nat
  lithology : Lithology
  band : Band
  openTime : TimeStamp
  closeTime : TimeStamp
  bottomSeconds : Nat
  revolutions : Nat
  meanRop : Nat
  mudGain : Nat
  mudLoss : Nat
  flags : StrataFlags
  remarks : List Byte
  deriving DecidableEq, Repr

/-- A stored record (R137, R141). -/
structure StrataRecord where
  sequence : Nat
  body : StrataBody
  crc : BitVec 16
  deriving DecidableEq, Repr

/-- The MUD baseline of an interval: gain and loss in mL and the epoch (R134). -/
structure MudBaseline where
  gain : Nat
  loss : Nat
  epoch : BitVec 16
  deriving DecidableEq, Repr

/-- The open interval (R133). -/
structure Interval where
  sequence : Nat
  gridBase : Nat
  top : Nat
  lithology : Lithology
  jobNumber : Nat
  openTime : TimeStamp
  bottomSeconds : Nat
  bottomTenths : Nat
  revolutions : Nat
  baseline : Option MudBaseline
  flags : StrataFlags
  remarks : List Byte
  lower : Option StrataBody
  deriving DecidableEq, Repr

/-- The verify scan (R144): state, number of the record at its position, number of its fixed end, number of
the faulty record. -/
structure Scan where
  state : ScanState
  position : Option Nat
  last : Option Nat
  faulty : Option Nat
  deriving DecidableEq, Repr

structure StrataLog where
  store : List StrataRecord
  current : Interval
  cursor : Nat
  latch : Bool
  scan : Scan
  discards : Nat
  kept : Option BalanceCondition
  onBottom : Bool
  deriving DecidableEq, Repr

/-! ### Job meter (R147 to R163) -/

/-- An accumulator: mills and its saturated mark. -/
structure Accumulator where
  mills : Nat
  saturated : Bool
  deriving DecidableEq, Repr

/-- The gap flags of a job (R147). -/
structure JobFlags where
  footageGap : Bool
  mudGap : Bool
  handlerGap : Bool
  clockGap : Bool
  deriving DecidableEq, Repr

/-- The job record. Accumulators in the order of R173: seven time classes, four bands, four additive
kinds, wear, adjustment, job total. Quantities in the same order: seconds, mm, units, make-ups, unclocked
seconds. Baselines: footage by band, additive units by kind, make-ups; none is pending. `number` is none
in NO_JOB; `closeTime` is present only in CLOSED. -/
structure JobRecord where
  number : Option Nat
  state : JobState
  openTime : TimeStamp
  closeTime : TimeStamp
  summaryRead : Bool
  accumulators : Vector Accumulator 18
  quantities : Vector Nat 17
  timeResidues : Vector Nat 7
  bandResidues : Vector Nat 4
  baselines : Vector (Option Nat) 9
  flags : JobFlags
  deriving DecidableEq, Repr

/-- The job meter. `window` is the number and the multiplier of the tariff window in force as last taken (0
and 256 while no window is configured); none when the clock was unset then, and before it is first taken
(R153, R163, log 11). -/
structure Meter where
  job : JobRecord
  activity : Activity
  window : Option (Nat × Nat)
  deriving DecidableEq, Repr

/-! ### Station port (R164, R165) -/

/-- The station port: response buffer (status, content of the body, read position), the requests taken and
not yet carried out, oldest first, and the bytes shifted out in the last transaction. -/
structure Port where
  status : Status
  body : List Byte
  readPos : Nat
  taken : List Instr
  out : List Byte
  deriving DecidableEq, Repr

/-! ### The node -/

/-- The state of one RN-40, with the queue of commands that are waiting. -/
structure State where
  node : Node
  clock : Clock
  time : TimeBase
  timers : Timers
  pins : Pins
  peers : Vector PeerEntry 8
  link : Link
  directives : DirectiveResults
  holds : Holds
  inventory : Inventory
  seq : Sequencer
  circ : Circulation
  bal : Balance
  depth : Depth
  log : StrataLog
  meter : Meter
  port : Port
  causes : BitVec 32
  pending : List Instr
  deriving DecidableEq, Repr

/-- Reasons to stop: none. The manual lets the node stop nowhere; every command of the table ends in a next
state, a refused request with its status code in the response buffer (R166). -/
inductive Fault where
  deriving DecidableEq, Repr

/-- Reasons for having no meaning to give. -/
inductive Refusal where
  /-- Raised by an arm of Dispatch.lean whose command has no meaning yet; safe: nothing is claimed of it. -/
  | notModelled (mnemonic : String)
  deriving DecidableEq, Repr

/-! ### Values after a reset -/

def ReasonSet.empty : ReasonSet := ⟨false, false, false, false⟩

def StrataFlags.none : StrataFlags := ⟨false, false, false, false, false, false⟩

def Due.none : Due := ⟨false, false, false, false, false⟩

/-- An UNHEARD slot (R17). -/
def Slot.unheard {α : Type} : Slot α := ⟨.unheard, 0, none⟩

def PeerEntry.unheard : PeerEntry := ⟨.unheard, .unheard, .unheard, .unheard, .unheard⟩

/-- The peer view table after either reset (R17). -/
def peersAtReset : Vector PeerEntry 8 := Vector.replicate 8 PeerEntry.unheard

/-- The link controller after either reset (R41, R25). The line state is UNKNOWN, also after OWNER, for which
R23's table says BUSY (log 46). -/
def Link.atReset : Link :=
  { line := .unknown, receiving := false, sending := none, mute := none, faultCount := 0
    errorCount := 0, queue := [], holdFrame := none, holdWaiting := none, due := .none }

/-- The hold set after either reset (R42). -/
def Holds.atReset : Holds := ⟨Vector.replicate 8 none, .empty⟩

def DirectiveResults.atReset : DirectiveResults := ⟨none, none, none⟩

/-- The trip plan after either reset (R89). -/
def TripPlan.atReset : TripPlan := ⟨.none, 0, false, false, none⟩

/-- The inventory as initialised (R68). -/
def Inventory.initial : Inventory :=
  ⟨Vector.replicate 60 none, [], none, 0, false, 0⟩

/-- The sequencer's volatile values after either reset; the cumulative counts and the cycle marker are
retained (R89); the time left on the stopped step timer is the model's (log 11). -/
def Sequencer.afterReset (q : Sequencer) : Sequencer :=
  { state := .idle, kind := .none, step := none, slot := none, fault := none, timer := 0
    plan := .atReset, lockedMark := false
    makeups := q.makeups, breakouts := q.breakouts, marker := q.marker }

/-- The sequencer as initialised (R89). -/
def Sequencer.initial : Sequencer :=
  { state := .idle, kind := .none, step := none, slot := none, fault := none, timer := 0
    plan := .atReset, lockedMark := false, makeups := 0, breakouts := 0, marker := none }

def PumpRecord.atReset : PumpRecord := ⟨.off, 0, 0, 0⟩

/-- The circulation controller after either reset (R104). -/
def Circulation.atReset : Circulation :=
  { pump1 := .atReset, pump2 := .atReset, state := .stopped, bled := 0, absent := 0
    returnsAbsent := false, pressure := 0, heldSamples := 5, returns := 0, strokes1 := 0
    strokes2 := 0, flowIn := 0, additives := Vector.replicate 4 0 }

/-- A pit's level record after either reset (R119). -/
def PitRecord.atReset : PitRecord := ⟨none, true, false, none⟩

/-- The balance unit after either reset (R119); that no station stands as the previous HEAD owner is the
model's (log 11). -/
def Balance.atReset : Balance :=
  { pits := Vector.replicate 4 .atReset, prevD := 0, prevH := 0, depthHeld := true, prevOwner := none
    steelResidue := 0, holeResidue := 0, water := 0, window := Vector.replicate 15 ⟨0, false⟩
    position := 0, sum := 0, last := 0, lastSaturated := false, underlying := .normal
    announced := .normal, gainTotal := 0, lossTotal := 0 }

/-- The depth tracker as initialised (R131). -/
def Depth.initial : Depth :=
  { count := 0, tracking := .unhomed, d := 0, dmax := 0, advance := 0, jumpHeld := false
    driveRise := none, lastL := 0, rotation := none, onBottom := false, ring := Vector.replicate 30 0
    ringPos := 0, filled := 0, prevDmax := 0, footage := Vector.replicate 4 0 }

/-- The tracker's volatile values after either reset; D, Dmax, the advance depth and the footage counters
are retained (R131). -/
def Depth.afterReset (t : Depth) : Depth :=
  { Depth.initial with d := t.d, dmax := t.dmax, advance := t.advance, footage := t.footage }

def Scan.none : Scan := ⟨.none, Option.none, Option.none, Option.none⟩

/-- Interval 1 as opened by initialisation (R134). -/
def Interval.initial : Interval :=
  { sequence := 1, gridBase := 0, top := 0, lithology := .topsoil, jobNumber := 0, openTime := none
    bottomSeconds := 0, bottomTenths := 0, revolutions := 0, baseline := none, flags := .none
    remarks := [], lower := none }

/-- The strata log as initialised (R146). -/
def StrataLog.initial : StrataLog :=
  { store := [], current := .initial, cursor := 1, latch := false, scan := .none, discards := 0
    kept := none, onBottom := false }

/-- The log's volatile values after either reset; store, open interval and cursor are retained (R146). -/
def StrataLog.afterReset (g : StrataLog) : StrataLog :=
  { StrataLog.initial with store := g.store, current := g.current, cursor := g.cursor }

def Accumulator.zero : Accumulator := ⟨0, false⟩

def JobFlags.none : JobFlags := ⟨false, false, false, false⟩

/-- The job record as initialised (R163). -/
def JobRecord.initial : JobRecord :=
  { number := none, state := .noJob, openTime := none, closeTime := none, summaryRead := false
    accumulators := Vector.replicate 18 .zero, quantities := Vector.replicate 17 0
    timeResidues := Vector.replicate 7 0, bandResidues := Vector.replicate 4 0
    baselines := Vector.replicate 9 none, flags := .none }

/-- The job meter as initialised; the activity class and the window in force before RUNNING entry are the
model's (log 11). -/
def Meter.initial : Meter := ⟨.initial, .held, none⟩

/-- The response buffer after either reset (R165). -/
def Port.atReset : Port := ⟨.noRequest, [], 0, [], []⟩

def Timers.stopped : Timers := ⟨none, none, none, none, none, none, none⟩

/-- The input lines at State.reset (log 10, log 12). -/
def Pins.low : Pins :=
  ⟨false, false, false, false, false, false, false, false, false, false, false, false, true⟩

/-- The machine right after a power-on reset that finds the retained-memory marker invalid (R180, R181, log
9): every block at its reset value, retained state initialised, RETAINED_LOST (bit 16) set. -/
def State.reset : State :=
  { node := { state := .config, node := none, mud := none, handler := none, head := none, cab := none
              yielded := .empty, epoch := 0#16, marker := true, foundInvalid := true }
    clock := ⟨none, none⟩
    time := ⟨0, 0⟩
    timers := .stopped
    pins := .low
    peers := peersAtReset
    link := .atReset
    directives := .atReset
    holds := .atReset
    inventory := .initial
    seq := .initial
    circ := .atReset
    bal := .atReset
    depth := .initial
    log := .initial
    meter := .initial
    port := .atReset
    causes := 0x00010000#32
    pending := [] }

end Sys2Proof.Machine
end

