-- ==== Sys2Proof/Machine/Operands.lean ====
section
/-! DEFINITION. How numbers, names, sets and times stand in bytes (R166, R167, R170): the code tables, the
byte builders and the readers of request bodies. Byte order is decided here once: big-endian. -/

/-! ### Questions about the names of the manual -/

namespace Sys2Proof

def RoleSet.has (r : RoleSet) : Role → Bool
  | .mud => r.mud
  | .handler => r.handler
  | .head => r.head
  | .cab => r.cab

def RoleSet.insert (r : RoleSet) : Role → RoleSet
  | .mud => { r with mud := true }
  | .handler => { r with handler := true }
  | .head => { r with head := true }
  | .cab => { r with cab := true }

/-- FRESH or STALE, by which a slot claims (R8). -/
def Freshness.heard (f : Freshness) : Bool := f == .fresh || f == .stale

/-- The steps in which the top of the string is open (R73). -/
def Step.isOpen : Step → Bool
  | .breakJoint | .load | .joint | .lift | .drive => true
  | .slips | .store | .release => false

/-- STARTING or RUNNING, in which a pump's permit is asserted (R91). -/
def PumpState.permitted (p : PumpState) : Bool := p == .starting || p == .running

/-- STARTING, RUNNING or STOPPING (R91). -/
def PumpState.engaged (p : PumpState) : Bool := p == .starting || p == .running || p == .stopping

def Frame.isHold : Frame → Bool
  | .holdSet _ | .holdRelease => true
  | .directive _ | .announce _ | .presence _ => false

end Sys2Proof

namespace Sys2Proof.Machine

/-! ### Numbers -/

/-- The `n` bytes of a value, most significant first (R170). -/
def be : Nat → Nat → List Byte
  | 0, _ => []
  | n + 1, v => BitVec.ofNat 8 (v / 256 ^ n) :: be n v

/-- The `n` bytes of a signed value in two's complement (R170). -/
def beSigned (n : Nat) (v : Int) : List Byte := be n (v % (256 ^ n : Nat)).toNat

/-- The number a big-endian run of bytes stands for. -/
def ofBytes (bs : List Byte) : Nat := bs.foldl (fun acc b => acc * 256 + b.toNat) 0

/-- The number in the `n` bytes from byte `i`. -/
def numAt (bs : List Byte) (i n : Nat) : Nat := ofBytes ((bs.drop i).take n)

def byteAt (bs : List Byte) (i : Nat) : Byte := BitVec.ofNat 8 (numAt bs i 1)
def wordAt (bs : List Byte) (i : Nat) : BitVec 16 := BitVec.ofNat 16 (numAt bs i 2)
def quadAt (bs : List Byte) (i : Nat) : BitVec 32 := BitVec.ofNat 32 (numAt bs i 4)

/-! ### Flags, optional fields and lists (R170) -/

def flagByte (b : Bool) : List Byte := [if b then 1#8 else 0#8]

/-- An optional field: a byte 0, or a byte 1 and the field. -/
def optionalField {α : Type} (f : α → List Byte) : Option α → List Byte
  | none => [0#8]
  | some a => 1#8 :: f a

/-- A list: a count byte and the entries. -/
def listField {α : Type} (f : α → List Byte) (xs : List α) : List Byte :=
  be 1 xs.length ++ xs.flatMap f

/-! ### Enumerations, each in the order of R170 -/

/-- The code of a name is its place in its table. -/
def codeOf {α : Type} [DecidableEq α] (table : List α) (x : α) : Nat := table.idxOf x

/-- One byte holding a name's code. -/
def codeByte {α : Type} [DecidableEq α] (table : List α) (x : α) : List Byte := be 1 (codeOf table x)

def roleTable : List Role := [.mud, .handler, .head, .cab]
def nodeStateTable : List NodeState := [.config, .listen, .running]
def freshnessTable : List Freshness := [.unheard, .fresh, .stale, .lost]
def holdReasonTable : List HoldReason := [.driller, .flowGain, .handlingFault, .recovery]
def holdStateTable : List HoldState := [.active, .orphaned]
def lineStateTable : List LineState := [.unknown, .idle, .busy, .owner, .jammed]
def muteCauseTable : List MuteCause := [.faultLimit, .clash]
def directiveTable : List DirectiveCode :=
  [.setLithology, .addRemark, .markWater, .startPump, .stopPump, .stopTrip]
def pumpStateTable : List PumpState := [.off, .starting, .running, .stopping, .failed]
def circStateTable : List CircState := [.stopped, .locked, .priming, .circulating, .bleeding]
def conditionTable : List BalanceCondition := [.normal, .loss, .gain, .degraded]
def additiveTable : List Additive := [.clay, .polymer, .lossMaterial, .conditioner]
def seqStateTable : List SeqState := [.idle, .active, .faulted, .transitHeld, .recover]
def cycleKindTable : List CycleKind := [.none, .makeup, .breakout]
def stepTable : List (Option Step) :=
  [none, some .slips, some .breakJoint, some .load, some .joint, some .lift, some .drive,
   some .store, some .release]
def rodKindTable : List RodKind := [.drillRod, .collar, .stabiliser, .reamer, .bit, .crossover]
def rodStatusTable : List RodStatus := [.serviceable, .worn]
def trackingTable : List TrackingState := [.unhomed, .tracking, .frozen, .resync]
def lithologyTable : List Lithology :=
  [.topsoil, .clay, .silt, .sand, .gravel, .boulder, .sandstone, .siltstone, .shale, .conglomerate,
   .limestone, .weatheredRock, .granite, .gneiss, .basalt, .quartzite]
def bandTable : List Band := [.soft, .medium, .hard, .extraHard]
def outcomeTable : List LithologyOutcome := [.reclassified, .closed, .split]
def scanStateTable : List ScanState := [.none, .inFlight, .clean, .fault]
def jobStateTable : List JobState := [.noJob, .opened, .suspended, .closed]
def activityTable : List Activity :=
  [.held, .down, .drilling, .tripping, .connecting, .circulating, .standby]

/-- The eighteen attention causes by bit position (R167). -/
def causeTable : List Cause :=
  [.peerLost, .roleYielded, .stationClash, .linkMuted, .linkJammed, .holdChanged, .directiveRefused,
   .pumpFailed, .lowSuction, .balanceAlarm, .returnsAbsent, .stepTimeout, .encoderFault,
   .depthMismatch, .storeNearFull, .storeFault, .retainedLost, .accumSaturated]

/-- The status codes of R166. -/
def statusCode : Status → Nat
  | .ok => 0x00
  | .pending => 0x01
  | .noRequest => 0x02
  | .truncated => 0x03
  | .unknown => 0x04
  | .notRole => 0x05
  | .roleYielded => 0x06
  | .badState => 0x07
  | .badValue => 0x08
  | .busy => 0x09
  | .held => 0x0A
  | .configLocked => 0x0B
  | .queueFull => 0x10
  | .notHolding => 0x11
  | .notOrphaned => 0x12
  | .slotOccupied => 0x20
  | .slotEmpty => 0x21
  | .duplicateId => 0x22
  | .stringFull => 0x23
  | .stringEmpty => 0x24
  | .rackEmpty => 0x25
  | .rackFull => 0x26
  | .transitEmpty => 0x27
  | .transitOccupied => 0x28
  | .locked => 0x40
  | .handlerOpen => 0x41
  | .suctionLow => 0x42
  | .handlerHeard => 0x43
  | .stringNotEmpty => 0x50
  | .remarksFull => 0x51
  | .storeBusy => 0x52
  | .noSuchRecord => 0x53
  | .summaryUnread => 0x60
  | .accumSaturated => 0x61

/-! ### Sets -/

/-- The nibble of a role set: bit 3 MUD, 2 HANDLER, 1 HEAD, 0 CAB (R170). -/
def roleNibble (r : RoleSet) : Nat :=
  r.mud.toNat * 8 + r.handler.toNat * 4 + r.head.toNat * 2 + r.cab.toNat

/-- The role set of the low four bits of a number. -/
def roleSetOf (n : Nat) : RoleSet := ⟨n.testBit 3, n.testBit 2, n.testBit 1, n.testBit 0⟩

def ReasonSet.has (r : ReasonSet) : HoldReason → Bool
  | .driller => r.driller
  | .flowGain => r.flowGain
  | .handlingFault => r.handlingFault
  | .recovery => r.recovery

def ReasonSet.set (r : ReasonSet) (b : Bool) : HoldReason → ReasonSet
  | .driller => { r with driller := b }
  | .flowGain => { r with flowGain := b }
  | .handlingFault => { r with handlingFault := b }
  | .recovery => { r with recovery := b }

/-- The members in the order DRILLER, FLOW_GAIN, HANDLING_FAULT, RECOVERY (R42). -/
def ReasonSet.members (r : ReasonSet) : List HoldReason := holdReasonTable.filter r.has

/-- The first of the local reasons, which is the own entry's reason (R42). -/
def ReasonSet.first (r : ReasonSet) : Option HoldReason := r.members.head?

/-- A set of names that has no bit layout stands as a list of its members in table order (log 14). -/
def reasonSetField (r : ReasonSet) : List Byte := listField (codeByte holdReasonTable) r.members

/-! ### Times (R170) -/

/-- A time: day count then minute of day; 0xFFFF in both halves when unset or absent. -/
def timeField : TimeStamp → List Byte
  | none => be 2 0xFFFF ++ be 2 0xFFFF
  | some (day, minute) => be 2 day ++ be 2 minute

/-- A station that may be none (R170). -/
def stationField : Option Station → List Byte
  | none => [0xFF#8]
  | some st => be 1 st.val

/-! ### Indexes -/

def roleIndex : Role → Fin 4
  | .mud => 0
  | .handler => 1
  | .head => 2
  | .cab => 3

def bandIndex : Band → Fin 4
  | .soft => 0
  | .medium => 1
  | .hard => 2
  | .extraHard => 3

def activityIndex : Activity → Fin 7
  | .held => 0
  | .down => 1
  | .drilling => 2
  | .tripping => 3
  | .connecting => 4
  | .circulating => 5
  | .standby => 6

/-- The station of a number, if there is one. -/
def stationOf (n : Nat) : Option Station := if h : n < 8 then some ⟨n, h⟩ else none

/-- The rack slot of a number, if there is one. -/
def slotOf (n : Nat) : Option RackSlot := if h : n < 60 then some ⟨n, h⟩ else none

end Sys2Proof.Machine

/-! ### Names as the bits of a frame: their codes of R170 at the width of R171 -/

namespace Sys2Proof

def CircState.bits (x : CircState) : BitVec 3 := BitVec.ofNat 3 (Machine.codeOf Machine.circStateTable x)
def PumpState.bits (x : PumpState) : BitVec 3 := BitVec.ofNat 3 (Machine.codeOf Machine.pumpStateTable x)
def CycleKind.bits (x : CycleKind) : BitVec 2 := BitVec.ofNat 2 (Machine.codeOf Machine.cycleKindTable x)
def Activity.bits (x : Activity) : BitVec 3 := BitVec.ofNat 3 (Machine.codeOf Machine.activityTable x)
def HoldReason.bits (x : HoldReason) : Byte := BitVec.ofNat 8 (Machine.codeOf Machine.holdReasonTable x)

/-- The code of a step, or of "none" (R170). -/
def stepBits (x : Option Step) : BitVec 4 := BitVec.ofNat 4 (Machine.codeOf Machine.stepTable x)

end Sys2Proof
end

