-- ==== Sys2Proof/Machine/Flags.lean ====
section
/-! DEFINITION. The attention unit's flags and the lines computed from the state: raising a cause, the mask,
ATTN_N, ALARM (R167 to R169), and the permit of a pump (R91). -/

namespace Sys2Proof.Machine

/-- The bit of a cause in a cause set (R167). -/
def causeBit (c : Cause) : BitVec 32 := 1#32 <<< codeOf causeTable c

/-- All eighteen causes; bits 18 to 31 are zero (R167). -/
def allCauses : BitVec 32 := 0x0003FFFF#32

/-- A cause raised; one already set stays set (R167). -/
def State.raise (c : Cause) (s : State) : State := { s with causes := s.causes ||| causeBit c }

def State.raised (s : State) (c : Cause) : Bool := s.causes &&& causeBit c != 0#32

/-- A cause raised if a condition holds. -/
def State.raiseIf (b : Bool) (c : Cause) (s : State) : State := if b then s.raise c else s

/-- The attention mask: all causes until the NODE group is configured (R167). -/
def State.mask (s : State) : BitVec 32 :=
  match s.node.node with
  | some c => c.mask
  | none => allCauses

/-- ATTN_N asserted: exactly while a set cause is in the mask (R169). -/
def State.attentionLine (s : State) : Bool := s.causes &&& s.mask != 0#32

/-- The rig is held at this node: some local reason, or an entry of another station (R42). -/
def State.held (s : State) : Bool :=
  s.holds.reasons != .empty || s.holds.others.toList.any Option.isSome

/-- ALARM asserted (R169). -/
def State.alarm (s : State) : Bool :=
  s.held || s.raised .pumpFailed || s.raised .lowSuction || s.raised .balanceAlarm ||
  s.raised .stepTimeout

/-! ### Roles (R1) -/

def State.rolesHeld (s : State) : RoleSet :=
  match s.node.node with
  | some c => c.held
  | none => .empty

def State.holdsRole (s : State) (r : Role) : Bool := s.rolesHeld.has r

def State.yields (s : State) (r : Role) : Bool := s.node.yielded.has r

/-- Held and not yielded (R1). -/
def State.active (s : State) (r : Role) : Bool := s.holdsRole r && !s.yields r

def State.running (s : State) : Bool := s.node.state == .running

/-- The job block of the role acts: the role is active and the node is in RUNNING (R1, R175). -/
def State.acts (s : State) (r : Role) : Bool := s.running && s.active r

/-- The station number, none while the NODE group is unconfigured (R1). -/
def State.station (s : State) : Option Station := s.node.node.map (·.station)

/-! ### Pump permits (R91, R13) -/

def Circulation.pump (c : Circulation) : Pump → PumpRecord
  | .one => c.pump1
  | .two => c.pump2

def Circulation.setPump (c : Circulation) (p : Pump) (r : PumpRecord) : Circulation :=
  match p with
  | .one => { c with pump1 := r }
  | .two => { c with pump2 := r }

/-- PUMP1_PERMIT or PUMP2_PERMIT asserted: the role acts and the pump is STARTING or RUNNING. -/
def State.pumpPermit (s : State) (p : Pump) : Bool :=
  s.acts .mud && (s.circ.pump p).state.permitted

end Sys2Proof.Machine
end

