-- ==== Sys2Proof/Machine/Ops.lean ====
section
/-! DEFINITION. The named operations that several blocks share: the instant, answers of requests, the peer
view table with its role owner map and readings, the hold set, the inventory's moves and searches, the
breakout permit and the time read from the node clock. -/

namespace Sys2Proof.Machine

/-! ### Time (log 3) -/

/-- The present instant in bit times. -/
def State.now (s : State) : Nat := s.time.tenths * Config.tenth + s.time.sub

/-- A time read from the node clock: day count and minute, none while unset (R179). -/
def State.timeStamp (s : State) : TimeStamp := s.clock.time.map fun t => (t.day, t.minute)

/-! ### Answers (R164 to R166) -/

/-- A request's answer: status code and the content of the body. -/
structure Reply where
  status : Status
  body : List Byte
  deriving DecidableEq, Repr

/-- OK with the answer the request's rule gives. -/
def okWith (body : List Byte) : Reply := ⟨.ok, body⟩

/-- BAD_VALUE with the index of the offending field (R166). -/
def badValue (field : Nat) : Reply := ⟨.badValue, be 1 field⟩

/-- Any other refusal: an empty body (R166). -/
def refuse (code : Status) : Reply := ⟨code, []⟩

/-- An answer and the state after the request. -/
abbrev Answered := Reply × State

/-- The response buffer with a new answer, read from its start (R164, R165). -/
def Port.fill (p : Port) (r : Reply) : Port := { p with status := r.status, body := r.body, readPos := 0 }

/-- The answer of a request that has been carried out. A request that was taken earlier leaves the list of
taken requests; its answer is kept only if the buffer waits on it, that is, if it is the request last decoded
(R164). A request row commanded without a REQUEST_DECODE before it stands for both at once (log 6). -/
def Port.finish (p : Port) (i : Instr) (r : Reply) : Port :=
  if i ∈ p.taken then
    let left : Port := { p with taken := p.taken.erase i }
    if p.status = .pending ∧ i ∉ p.taken.dropLast then left.fill r else left
  else p.fill r

def State.answer (i : Instr) (a : Answered) : State :=
  { a.2 with port := a.2.port.finish i a.1 }

/-- The outcome of a request row: the request carried out and answered. -/
def answered (i : Instr) (a : Answered) : Host.Outcome State Fault Refusal := .next (State.answer i a)

/-- The checks of R2, before every refusal of the request's own rule. -/
def State.roleRequest (s : State) (r : Role) (request : State → Answered) : Answered :=
  if !s.holdsRole r then (refuse .notRole, s)
  else if s.yields r then (refuse .roleYielded, s)
  else request s

/-- A request refused, nothing changed. -/
def State.refused (s : State) (code : Status) : Answered := (refuse code, s)

/-- A request that only an acting block takes: R2, then BAD_STATE outside node state RUNNING. -/
def State.runningRequest (s : State) (r : Role) (request : State → Answered) : Answered :=
  s.roleRequest r fun s => if s.running then request s else s.refused .badState

/-! ### Peer view table (R3 to R5) -/

/-- The slot after a frame is stored in it: FRESH with age 0 (R4). -/
def Slot.stored {α : Type} (a : α) : Slot α := ⟨.fresh, 0, some a⟩

def Slot.marked {α : Type} (k : Slot α) (f : Freshness) (age : Nat) : Slot α :=
  { k with freshness := f, age := age }

/-- The age of a heard slot after `n` steps of 10 ms; it stops at 10,000 ms (R3). -/
def Slot.aged {α : Type} (n : Nat) (k : Slot α) : Slot α :=
  match k.freshness with
  | .unheard => k
  | _ => { k with age := min Config.lostAge (k.age + n) }

def PeerEntry.aged (n : Nat) (e : PeerEntry) : PeerEntry :=
  ⟨e.presence.aged n, e.mud.aged n, e.handler.aged n, e.head.aged n, e.cab.aged n⟩

def PeerEntry.freshness (e : PeerEntry) : SlotName → Freshness
  | .presence => e.presence.freshness
  | .announce .mud => e.mud.freshness
  | .announce .handler => e.handler.freshness
  | .announce .head => e.head.freshness
  | .announce .cab => e.cab.freshness

def PeerEntry.age (e : PeerEntry) : SlotName → Nat
  | .presence => e.presence.age
  | .announce .mud => e.mud.age
  | .announce .handler => e.handler.age
  | .announce .head => e.head.age
  | .announce .cab => e.cab.age

def PeerEntry.marked (e : PeerEntry) (n : SlotName) (f : Freshness) (age : Nat) : PeerEntry :=
  match n with
  | .presence => { e with presence := e.presence.marked f age }
  | .announce .mud => { e with mud := e.mud.marked f age }
  | .announce .handler => { e with handler := e.handler.marked f age }
  | .announce .head => { e with head := e.head.marked f age }
  | .announce .cab => { e with cab := e.cab.marked f age }

def PeerEntry.storePresence (e : PeerEntry) (p : Presence) : PeerEntry :=
  { e with presence := .stored p }

def PeerEntry.storeAnnouncement (e : PeerEntry) : Announcement → PeerEntry
  | .mud a => { e with mud := .stored a }
  | .handler a => { e with handler := .stored a }
  | .head a => { e with head := .stored a }
  | .cab a => { e with cab := .stored a }

/-! ### Role owner map (R8, R9) -/

/-- The role is among the roles yielded in the entry's presence slot; an UNHEARD slot yields nothing. -/
def PeerEntry.yieldsRole (e : PeerEntry) (r : Role) : Bool :=
  e.presence.freshness != .unheard &&
  match e.presence.content with
  | some p => p.yielded.has r
  | none => false

/-- The presence slot is FRESH or STALE and lists the role as held. -/
def PeerEntry.presenceClaims (e : PeerEntry) (r : Role) : Bool :=
  e.presence.freshness.heard &&
  match e.presence.content with
  | some p => p.held.has r
  | none => false

/-- The station claims the role (R8). -/
def PeerEntry.claims (e : PeerEntry) (r : Role) : Bool :=
  !e.yieldsRole r && (e.presenceClaims r || (e.freshness (.announce r)).heard)

def stations : List Station := [0, 1, 2, 3, 4, 5, 6, 7]

/-- The role owner map: the lowest-numbered station that claims the role, or none (R8). -/
def ownerIn (peers : Vector PeerEntry 8) (r : Role) : Option Station :=
  stations.find? fun st => peers[st].claims r

def State.owner (s : State) (r : Role) : Option Station := ownerIn s.peers r

/-- The owner views (R9): none when the map gives no owner. -/
def State.mudView (s : State) : Option (Slot MudAnnounce) := (s.owner .mud).map fun st => s.peers[st].mud
def State.handlerView (s : State) : Option (Slot HandlerAnnounce) :=
  (s.owner .handler).map fun st => s.peers[st].handler
def State.headView (s : State) : Option (Slot HeadAnnounce) :=
  (s.owner .head).map fun st => s.peers[st].head
def State.cabView (s : State) : Option (Slot CabAnnounce) := (s.owner .cab).map fun st => s.peers[st].cab

/-! ### The three readings of a view (R10) -/

/-- The content of a view that passes the FRESH test. -/
def freshContent {α : Type} (view : Option (Slot α)) : Option α :=
  match view with
  | some k => if k.freshness = .fresh then k.content else none
  | none => none

/-- The last-heard reading: the stored content whatever its age; nothing without owner or while UNHEARD.
-/
def lastHeard {α : Type} (view : Option (Slot α)) : Option α :=
  match view with
  | some k => if k.freshness = .unheard then none else k.content
  | none => none

/-- The LOST test: no owner, or the view LOST; an UNHEARD view reads as LOST (R9). -/
def lostTest {α : Type} (view : Option (Slot α)) : Bool :=
  match view with
  | some k => k.freshness == .lost || k.freshness == .unheard
  | none => true

/-! ### Hold frame slot (R37) -/

/-- A hold frame is in transmission. -/
def Link.sendingHold (k : Link) : Bool :=
  match k.sending with
  | some f => f.isHold
  | none => false

/-- A hold frame placed: it replaces a pending one that has not begun and waits behind one in transmission.
-/
def Link.placeHold (k : Link) (f : HoldFrame) : Link :=
  if k.sendingHold then { k with holdWaiting := some f } else { k with holdFrame := some f }

def State.placeHoldFrame (f : HoldFrame) (s : State) : State := { s with link := s.link.placeHold f }

/-! ### Hold set (R42 to R50) -/

/-- The held edge at the HANDLER block: a trip plan with cycles left becomes hold-paused, unless it is
fault-paused (R51, R77, R82). -/
def State.heldEdge (s : State) : State :=
  if s.acts .handler && 0 < s.seq.plan.remaining && !s.seq.plan.faultPause then
    { s with seq := { s.seq with plan := { s.seq.plan with holdPause := true } } }
  else s

/-- The hold set replaced; HOLD_CHANGED is raised when `changed`, and the held edge follows when the set
passes from empty to non-empty (R49). -/
def State.withHolds (h : Holds) (changed : Bool) (s : State) : State :=
  let s' := ({ s with holds := h } : State).raiseIf changed .holdChanged
  if !s.held && s'.held then s'.heldEdge else s'

/-- The hold frame a change of the local reasons places, if any (R43, R44). -/
def holdFrameFor (old new : ReasonSet) : Option HoldFrame :=
  if new = .empty then some .release
  else if old.first = new.first then none
  else some .set

/-- The local reasons replaced, with the frame and the cause the change gives (R43, R44). -/
def State.setReasons (new : ReasonSet) (s : State) : State :=
  if new = s.holds.reasons then s
  else
    let s' := match holdFrameFor s.holds.reasons new with
      | some f => s.placeHoldFrame f
      | none => s
    s'.withHolds { s'.holds with reasons := new } true

def State.placeReason (r : HoldReason) (s : State) : State :=
  s.setReasons (s.holds.reasons.set true r)

def State.removeReason (r : HoldReason) (s : State) : State :=
  s.setReasons (s.holds.reasons.set false r)

/-- What a change of an entry must touch to raise HOLD_CHANGED: presence, reason or state (R49). -/
def entryFace (e : Option HoldEntry) : Option (Byte × HoldState) := e.map fun e => (e.reason, e.state)

/-- Another station's entry replaced, added or removed (R45 to R48). -/
def State.setEntry (st : Station) (e : Option HoldEntry) (s : State) : State :=
  s.withHolds { s.holds with others := put s.holds.others st e }
    (entryFace s.holds.others[st] != entryFace e)

/-- A report of the station that it is holding, or not (R45, R46). -/
def State.holdReport (st : Station) (reason : Option Byte) (s : State) : State :=
  s.setEntry st (reason.map fun r => ⟨r, .active, 0⟩)

/-- The station's entry marked ORPHANED, if it is present (R47). -/
def State.orphan (st : Station) (s : State) : State :=
  match s.holds.others[st] with
  | some e => s.setEntry st (some { e with state := .orphaned })
  | none => s

def HoldEntry.aged (n : Nat) (e : HoldEntry) : HoldEntry :=
  { e with silence := min Config.lostAge (e.silence + n) }

/-! ### String length and searches (R60, R66) -/

def Inventory.sumOfLengths (v : Inventory) : Nat := (v.string.map (·.length)).sum

/-- The string length L: the sum of the entries plus the tally correction, 0 when negative (R66). -/
def Inventory.length (v : Inventory) : Nat := ((v.sumOfLengths : Int) + v.tally).toNat

def Inventory.topRod (v : Inventory) : Option Rod := v.string.getLast?

def rackSlots : List RackSlot := (List.finRange 60)

/-- The slots in search order: upward from the carousel index, wrapping from 59 to 0 (R60). -/
def Inventory.searchOrder (v : Inventory) : List RackSlot := rackSlots.map (v.carousel + ·)

def rodServiceable : Option Rod → Bool
  | some r => r.status == .serviceable
  | none => false

/-- The make-up selection (R60). -/
def Inventory.makeupSlot (v : Inventory) : Option RackSlot :=
  v.searchOrder.find? fun i => rodServiceable v.rack[i]

/-- The store target (R60). -/
def Inventory.storeSlot (v : Inventory) : Option RackSlot :=
  v.searchOrder.find? fun i => v.rack[i].isNone

def Inventory.serviceableCount (v : Inventory) : Nat := v.rack.toList.countP rodServiceable

def Inventory.emptyCount (v : Inventory) : Nat := v.rack.toList.countP Option.isNone

/-- The rod ID is held in the rack, the string or the transit position (R57). -/
def Inventory.hasId (v : Inventory) (id : Nat) : Bool :=
  v.rack.toList.any (fun r => r.any (·.id == id)) || v.string.any (·.id == id) ||
  v.transit.any (·.id == id)

/-! ### Moves (R58): made whole, or refused with the code of the missing condition, the first in the order of
R58's table where two are missing (log 38) -/

/-- PICK (R58): the slot is looked at before the transit position (log 38). -/
def Inventory.pick (v : Inventory) (i : RackSlot) : Except Status Inventory :=
  match v.rack[i], v.transit with
  | none, _ => .error .slotEmpty
  | some _, some _ => .error .transitOccupied
  | some r, none => .ok { v with rack := put v.rack i none, transit := some r }

/-- A rod after one more JOIN under a wear limit (R53). -/
def Rod.joined (r : Rod) (wearLimit : Nat) : Rod :=
  let count := min 65535 (r.makeups + 1)
  { r with makeups := count, status := if wearLimit ≤ count then .worn else r.status }

/-- JOIN (R58): the transit position is looked at before the string (log 38). -/
def Inventory.join (v : Inventory) (wearLimit : Nat) : Except Status Inventory :=
  match v.transit with
  | none => .error .transitEmpty
  | some r =>
    if v.string.length < Config.stringCapacity then
      .ok { v with string := v.string ++ [r.joined wearLimit], transit := none }
    else .error .stringFull

/-- The tally correction after the string has changed: zeroed when the string becomes empty (R65). -/
def Inventory.settleTally (v : Inventory) : Inventory :=
  if v.string = [] then { v with tally := 0, adjusted := false } else v

/-- LIFT (R58): the string is looked at before the transit position (log 38). -/
def Inventory.lift (v : Inventory) : Except Status Inventory :=
  match v.string.getLast?, v.transit with
  | none, _ => .error .stringEmpty
  | some _, some _ => .error .transitOccupied
  | some r, none => .ok { v with string := v.string.dropLast, transit := some r }.settleTally

/-- STORE, and PLACE to a slot (R58): the transit position is looked at before the slot (log 38). -/
def Inventory.store (v : Inventory) (i : RackSlot) : Except Status Inventory :=
  match v.transit, v.rack[i] with
  | none, _ => .error .transitEmpty
  | some _, some _ => .error .slotOccupied
  | some r, none => .ok { v with rack := put v.rack i (some r), transit := none }

/-- PLACE at the string top (R58): no change of the make-up count; the transit position is looked at before the
string (log 38). -/
def Inventory.placeTop (v : Inventory) : Except Status Inventory :=
  match v.transit with
  | none => .error .transitEmpty
  | some r =>
    if v.string.length < Config.stringCapacity then
      .ok { v with string := v.string ++ [r], transit := none }
    else .error .stringFull

/-! ### Open steps and the breakout permit (R73, R85) -/

/-- The string-open flag of the HANDLER announcement record (R73). -/
def Sequencer.stringOpen (q : Sequencer) : Bool :=
  match q.state, q.step with
  | .idle, _ => false
  | _, some st => st.isOpen
  | _, none => false

/-- The HEAD owner view lets a joint be broken: FRESH, and tracking a connected drive or off bottom. -/
def headAllowsBreak (view : Option (Slot HeadAnnounce)) : Bool :=
  match freshContent view with
  | some a => a.tracking == .tracking || a.tracking == .resync || !a.onBottom
  | none => false

/-- BREAKOUT_PERMIT asserted: exactly while all conditions of R85 hold. -/
def State.breakoutPermit (s : State) : Bool :=
  s.acts .handler && s.seq.state == .active && s.seq.step == some .breakJoint && !s.held &&
  s.seq.lockedMark && (freshContent s.mudView).isSome && headAllowsBreak s.headView

/-- The step timer counts down: ACTIVE, not held, and in BREAK only under the permit (R76). -/
def State.stepTimerRuns (s : State) : Bool :=
  s.acts .handler && s.seq.state == .active && !s.held &&
  (s.seq.step != some .breakJoint || s.breakoutPermit)

/-! ### Suction (R100) -/

/-- The suction volume in whole litres: unknown until the suction pit has had a valid sample. -/
def State.suctionVolume (s : State) : Option Nat :=
  match s.node.mud with
  | none => none
  | some c =>
    if h : c.suctionPit - 1 < 4 then
      (s.bal.pits[c.suctionPit - 1].level).map (· * c.areas[c.suctionPit - 1] / 10000)
    else none

/-- Low suction: a known volume below the low watermark. -/
def State.suctionLow (s : State) : Bool :=
  match s.node.mud, s.suctionVolume with
  | some c, some v => decide (v < c.lowWatermark)
  | _, _ => false

end Sys2Proof.Machine
end

