-- ==== Sys2Proof/Machine/Circulation.lean ====
section
/-! DEFINITION. Chapter 6, Circulation Control: pumps and their permits, the circulation state, the lock,
bleed-down, returns, suction watermarks, flow-in, running seconds and additives (R91 to R104). -/

namespace Sys2Proof.Machine

/-- The level of a pump's running input. -/
def Pins.pumpRun (p : Pins) : Pump → Level
  | .one => p.pump1Run
  | .two => p.pump2Run

def Pins.setPumpRun (p : Pins) (n : Pump) (l : Level) : Pins :=
  match n with
  | .one => { p with pump1Run := l }
  | .two => { p with pump2Run := l }

/-- The pump of a number, if there is one. -/
def pumpOf (n : Nat) : Option Pump :=
  match n with
  | 1 => some .one
  | 2 => some .two
  | _ => none

/-- Some pump is in a state of the kind. -/
def Circulation.anyPump (c : Circulation) (kind : PumpState → Bool) : Bool :=
  kind c.pump1.state || kind c.pump2.state

/-! ### Circulation state (R94, R98) -/

/-- The end of a bleed-down by samples: two of them, and no pump STOPPING (R98). The bled count stays as it stood
(log 44). -/
def Circulation.bledDown (c : Circulation) : Circulation :=
  if c.bled = 2 && !c.anyPump (· == .stopping) then { c with state := .stopped } else c

/-- What a pump that has entered a state does to the circulation state (R94). BLEEDING begins with a bled
count of 0 (R98), PRIMING discards it, which sets it to 0 (log 44), and leaving CIRCULATING clears the absent
count and flag (R99). -/
def Circulation.pumpEntered (c : Circulation) (new : PumpState) : Circulation :=
  match c.state with
  | .stopped => if new = .starting then { c with state := .priming } else c
  | .locked => c
  | .priming | .circulating =>
    if c.anyPump PumpState.permitted then c
    else { c with state := .bleeding, bled := 0, absent := 0, returnsAbsent := false }
  | .bleeding => if new = .starting then { c with state := .priming, bled := 0 } else c.bledDown

/-! ### Pump states (R91) -/

/-- A pump's record in a new state: the timer is loaded in STARTING and STOPPING and stopped elsewhere. -/
def PumpRecord.entered (r : PumpRecord) (new : PumpState) : PumpRecord :=
  { r with
    state := new
    timer := if new = .starting ∨ new = .stopping then Config.pumpTime else 0 }

/-- A pump enters a state, before any entry check; FAILED raises PUMP_FAILED. -/
def State.pumpTo (p : Pump) (new : PumpState) (s : State) : State :=
  ({ s with circ := (s.circ.setPump p ((s.circ.pump p).entered new)).pumpEntered new } : State).raiseIf
    (new == .failed) .pumpFailed

/-- STARTING, with its entry check. -/
def State.pumpStarting (p : Pump) (s : State) : State :=
  let s' := s.pumpTo p .starting
  if s.pins.pumpRun p then s'.pumpTo p .running else s'

/-- A rise of the pump's running input comes at this instant: it waits in the queue ahead of the next row that moves
the time base (log 42). -/
def State.riseWaits (s : State) (p : Pump) : Bool :=
  (s.pending.takeWhile fun c => c != .timeBaseStep).contains (.pumpRunningChange p true)

/-- STOPPING, with its entry check: OFF at once on a low input, unless a rise comes together with it, which finds the
pump STOPPING (R91, R100, log 42). -/
def State.pumpStopping (p : Pump) (s : State) : State :=
  let s' := s.pumpTo p .stopping
  if s.pins.pumpRun p || s.riseWaits p then s' else s'.pumpTo p .off

/-- What a change of the running input makes of a pump state; none where the table lists no case. -/
def pumpOnInput (now : PumpState) (rises : Bool) : Option PumpState :=
  match now, rises with
  | .off, true => some .failed
  | .starting, true => some .running
  | .running, false => some .failed
  | .stopping, false => some .off
  | _, _ => none

/-- PUMP_RUNNING_CHANGE (R91): the line has its level in every state; a change reaches an acting block. -/
def execPumpRunningChange (pump : Pump) (level : Level) (s : State) : Host.Outcome State Fault Refusal :=
  let s' : State := { s with pins := s.pins.setPumpRun pump level }
  .next (if s.acts .mud && level != s.pins.pumpRun pump then
    match pumpOnInput (s.circ.pump pump).state level with
    | some new => s'.pumpTo pump new
    | none => s'
  else s')

/-- The pump's timer runs: STARTING or STOPPING while the role acts (R91). -/
def State.pumpTimerRuns (s : State) (p : Pump) : Bool :=
  s.acts .mud && ((s.circ.pump p).state == .starting || (s.circ.pump p).state == .stopping)

/-- PUMP_TIMER_EXPIRY (R91): the last step of a running timer's time; a timer loaded afresh before the row is
taken does not expire (log 4). -/
def execPumpTimerExpiry (pump : Pump) (s : State) : Host.Outcome State Fault Refusal :=
  .next (if s.pumpTimerRuns pump ∧ (s.circ.pump pump).timer ≤ 1 then s.pumpTo pump .failed else s)

/-- The pumps at RUNNING entry: one already turning is FAILED (R104). -/
def State.pumpsAtEntry (s : State) : State :=
  let s1 := if s.pins.pump1Run then s.pumpTo .one .failed else s
  if s1.pins.pump2Run then s1.pumpTo .two .failed else s1

/-! ### START_PUMP and STOP_PUMP (R92, R93), requests and directives -/

/-- The answer of a pump request: the pump's state after it. -/
def pumpReply (p : Pump) (s : State) : Reply := okWith (codeByte pumpStateTable (s.circ.pump p).state)

/-- The HANDLER view passes the FRESH test and shows a closed string (R92). -/
def State.handlerClosed (s : State) : Bool :=
  match freshContent s.handlerView with
  | some a => !a.stringOpen
  | none => false

/-- The suction volume is known and at or above the start watermark (R92, R100). -/
def State.suctionAllowsStart (s : State) : Bool :=
  match s.node.mud, s.suctionVolume with
  | some c, some v => decide (c.startWatermark ≤ v)
  | _, _ => false

def startPumpRequest (pump : Byte) (s : State) : Answered :=
  match pumpOf pump.toNat with
  | none => (badValue 1, s)
  | some p =>
    if s.held then s.refused .held
    else if s.circ.state = .locked then s.refused .locked
    else if !s.handlerClosed then s.refused .handlerOpen
    else if !s.suctionAllowsStart then s.refused .suctionLow
    else if (s.circ.pump p).state ≠ .off ∨ s.pins.pumpRun p then s.refused .badState
    else
      let s' := s.pumpStarting p
      (pumpReply p s', s')

/-- START_PUMP (R92). -/
def execStartPump (pump : Byte) (s : State) : Host.Outcome State Fault Refusal :=
  answered (.startPump pump) (s.runningRequest .mud (startPumpRequest pump))

def stopPumpRequest (pump : Byte) (s : State) : Answered :=
  match pumpOf pump.toNat with
  | none => (badValue 1, s)
  | some p =>
    match (s.circ.pump p).state with
    | .starting | .running =>
      let s' := s.pumpStopping p
      (pumpReply p s', s')
    | .failed =>
      let s' := s.pumpTo p .off
      (pumpReply p s', s')
    | .off | .stopping => s.refused .badState

/-- STOP_PUMP (R93). -/
def execStopPump (pump : Byte) (s : State) : Host.Outcome State Fault Refusal :=
  answered (.stopPump pump) (s.runningRequest .mud (stopPumpRequest pump))

/-! ### The lock (R95, R96) -/

/-- What a HANDLER owner arrival does to the circulation state (R95). -/
def Circulation.heardHandler (c : Circulation) (stringOpen : Bool) : Circulation :=
  match c.state with
  | .stopped => if stringOpen then { c with state := .locked } else c
  | .locked => if stringOpen then c else { c with state := .stopped }
  | .priming | .circulating | .bleeding => c

/-- UNLOCK's refusals and effect (R96). A handler that is heard is looked at before the circulation state: its arrival,
taken first, has decided the state, and the answer is HANDLER_HEARD (log 43). -/
def unlockRequest (s : State) : Answered :=
  if !lostTest s.handlerView then s.refused .handlerHeard
  else if s.circ.state ≠ .locked then s.refused .badState
  else (okWith [], { s with circ := { s.circ with state := .stopped } })

/-- UNLOCK (R96). -/
def execUnlock (s : State) : Host.Outcome State Fault Refusal :=
  answered .unlock (s.runningRequest .mud unlockRequest)

/-! ### Pressure and bleed-down (R97, R98) -/

/-- The pressure record after a sample (R97). -/
def Circulation.pressed (c : Circulation) (sound : Bool) (value : Nat) : Circulation :=
  if sound then { c with pressure := value, heldSamples := 0 }
  else { c with heldSamples := min 5 (c.heldSamples + 1) }

/-- The bled count after a sample in BLEEDING, and the end of the bleed-down (R98). -/
def Circulation.bleedSample (c : Circulation) (bled : Bool) : Circulation :=
  if c.state = .bleeding then
    ({ c with bled := if bled then min 2 (c.bled + 1) else 0 } : Circulation).bledDown
  else c

/-- PRESSURE_SAMPLE (R97, R98). -/
def execPressureSample (valid : Bool) (value : BitVec 16) (s : State) : Host.Outcome State Fault Refusal :=
  .next (
    if s.acts .mud then
      match s.node.mud with
      | some c =>
        let sound := valid && decide (value.toNat ≤ 40000)
        let bled := sound && decide (value.toNat ≤ c.bleedThreshold)
        { s with circ := (s.circ.pressed sound value.toNat).bleedSample bled }
      | none => s
    else s)

/-- CONFIRM_BLED's refusals and effect (R98); the bled count stays as it stood (log 44). -/
def confirmBledRequest (s : State) : Answered :=
  if s.circ.state ≠ .bleeding ∨ s.circ.anyPump (· == .stopping) then s.refused .badState
  else (okWith [], { s with circ := { s.circ with state := .stopped } })

/-- CONFIRM_BLED (R98). -/
def execConfirmBled (s : State) : Host.Outcome State Fault Refusal :=
  answered .confirmBled (s.runningRequest .mud confirmBledRequest)

/-! ### Returns and flow-in (R99, R101) -/

/-- RETURN_PULSE (R99). -/
def execReturnPulse (s : State) : Host.Outcome State Fault Refusal :=
  .next (if s.acts .mud then
    { s with circ := { s.circ with returns := satAdd 65535 s.circ.returns 1 } } else s)

/-- One stroke counted for a pump (R101). -/
def Circulation.stroke (c : Circulation) : Pump → Circulation
  | .one => { c with strokes1 := satAdd 65535 c.strokes1 1 }
  | .two => { c with strokes2 := satAdd 65535 c.strokes2 1 }

/-- STROKE_PULSE (R101). -/
def execStrokePulse (pump : Pump) (s : State) : Host.Outcome State Fault Refusal :=
  .next (if s.acts .mud then
    { s with circ := s.circ.stroke pump } else s)

/-- The judgement of the period's returns (R99). -/
def Circulation.judgeReturns (c : Circulation) (threshold : Nat) : Circulation :=
  match c.state, decide (threshold ≤ c.returns) with
  | .priming, true => { c with state := .circulating, absent := 0 }
  | .circulating, true => { c with absent := 0, returnsAbsent := false }
  | .circulating, false =>
    { c with absent := min 5 (c.absent + 1), returnsAbsent := c.returnsAbsent || decide (4 ≤ c.absent) }
  | _, _ => c

/-- The flow-in rate of a period, in L/min (R101). -/
def MudConfig.flowIn (c : MudConfig) (strokes1 strokes2 : Nat) : Nat :=
  (strokes1 * c.displacement1 * c.efficiency1 / 100 + strokes2 * c.displacement2 * c.efficiency2 / 100)
    * 30 / 1000

/-- The circulation controller's part of a balance period expiry: returns, flow-in, counts to 0. -/
def State.circulationPeriod (c : MudConfig) (s : State) : State :=
  let k := s.circ.judgeReturns c.returnsThreshold
  ({ s with circ := { k with
      flowIn := c.flowIn s.circ.strokes1 s.circ.strokes2
      returns := 0, strokes1 := 0, strokes2 := 0 } } : State).raiseIf
    (k.returnsAbsent && !s.circ.returnsAbsent) .returnsAbsent

/-! ### Suction (R100) -/

def State.pumpStopIfPermitted (p : Pump) (s : State) : State :=
  if (s.circ.pump p).state.permitted then s.pumpStopping p else s

/-- The suction has become low: LOW_SUCTION, and every STARTING or RUNNING pump to STOPPING. -/
def State.lowSuction (s : State) : State :=
  ((s.raise .lowSuction).pumpStopIfPermitted .one).pumpStopIfPermitted .two

/-! ### Running seconds and additives (R102, R103) -/

/-- One 100 ms step of a pump's running time (R102) and of its timer (R91, log 4). -/
def PumpRecord.tick (r : PumpRecord) : PumpRecord :=
  let r' := { r with timer := if 1 < r.timer then r.timer - 1 else r.timer }
  if r.state = .running then
    if r.tenths = 9 then { r' with tenths := 0, seconds := satAdd max32 r.seconds 1 }
    else { r' with tenths := r.tenths + 1 }
  else r'

/-- Both pumps at a 100 ms step of the time base. -/
def Circulation.tick (c : Circulation) : Circulation :=
  { c with pump1 := c.pump1.tick, pump2 := c.pump2.tick }

def addAdditiveRequest (kind : Byte) (units : BitVec 16) (s : State) : Answered :=
  if h : kind.toNat < 4 then
    if units.toNat = 0 ∨ 999 < units.toNat then (badValue 2, s)
    else
      let total := satAdd max32 s.circ.additives[kind.toNat] units.toNat
      (okWith (be 4 total),
       { s with circ := { s.circ with additives := put s.circ.additives ⟨kind.toNat, h⟩ total } })
  else (badValue 1, s)

/-- ADD_ADDITIVE (R103). -/
def execAddAdditive (kind : Byte) (units : BitVec 16) (s : State) : Host.Outcome State Fault Refusal :=
  answered (.addAdditive kind units) (s.runningRequest .mud (addAdditiveRequest kind units))

end Sys2Proof.Machine
end

