-- ==== Sys2Proof/Machine/Balance.lean ====
section
/-! DEFINITION. Chapter 7, Volume Balance: pit levels, the imbalance of a period, the window, the balance
condition and the totals (R107 to R118). Volumes are in u, a tenth of a millilitre. -/

namespace Sys2Proof.Machine

/-! ### Pit levels and water (R107, R111) -/

/-- A pit's level record after a sample (R107). -/
def PitRecord.sampled (r : PitRecord) (sound : Bool) (value : Nat) : PitRecord :=
  if sound then { r with level := some value, held := false, holdEnded := r.holdEnded || r.held }
  else { r with held := true }

/-- PIT_LEVEL_SAMPLE (R107), with the suction judged again on the suction pit (R100). -/
def execPitLevelSample (channel : Fin 4) (valid : Bool) (value : BitVec 16) (s : State) :
    Host.Outcome State Fault Refusal :=
  .next (
    if s.acts .mud then
      match s.node.mud with
      | some c =>
        if channel.val < c.pits then
          let r := s.bal.pits[channel].sampled (valid && decide (value.toNat ≤ 4000)) value.toNat
          let s' : State := { s with bal := { s.bal with pits := put s.bal.pits channel r } }
          if !s.suctionLow && s'.suctionLow then s'.lowSuction else s'
        else s
      | none => s
    else s)

/-- WATER_PULSE (R111). -/
def execWaterPulse (s : State) : Host.Outcome State Fault Refusal :=
  .next (if s.acts .mud then
    { s with bal := { s.bal with water := satAdd 65535 s.bal.water 1 } } else s)

/-! ### Stage 1: the pits (R109) -/

/-- A pit at an expiry: its contribution, whether it degrades the period, and its record afterwards. -/
structure PitStage where
  change : Int
  degraded : Bool
  record : PitRecord

/-- One active pit of area `area` at an expiry (R109). -/
def PitRecord.atExpiry (r : PitRecord) (area : Nat) : PitStage :=
  if r.held then ⟨0, true, r⟩
  else if r.holdEnded then ⟨0, true, { r with holdEnded := false, inUse := r.level }⟩
  else ⟨((r.level.getD 0 : Nat) - (r.inUse.getD 0 : Nat) : Int) * area, false, { r with inUse := r.level }⟩

def MudConfig.activePits (c : MudConfig) : List (Fin 4) :=
  (List.finRange 4).filter fun i => i.val < c.pits

/-- The stages of the active pits, in order. -/
def pitStages (c : MudConfig) (pits : Vector PitRecord 4) : List PitStage :=
  c.activePits.map fun i => pits[i].atExpiry c.areas[i]

/-- The level records after an expiry; inactive pits are left as they are. -/
def pitsAfter (c : MudConfig) (pits : Vector PitRecord 4) : Vector PitRecord 4 :=
  Vector.ofFn fun i => if i.val < c.pits then (pits[i].atExpiry c.areas[i]).record else pits[i]

/-- The total pit volume P (R109). -/
def pitVolume (c : MudConfig) (pits : Vector PitRecord 4) : Nat :=
  (c.activePits.map fun i => pits[i].inUse.getD 0 * c.areas[i]).sum

/-! ### Stage 3 and 4: the depth (R110, R112) -/

/-- The depth changes of a period, whether they degrade it, and the unit's depth records afterwards. -/
structure DepthStage where
  steel : Int
  hole : Int
  degraded : Bool
  prevD : Nat
  prevH : Nat
  held : Bool
  owner : Option Station

/-- The depth inputs at an expiry (R110): `owner` is the HEAD owner, `view` its content when FRESH. -/
def Balance.depthStage (b : Balance) (owner : Option Station) (view : Option HeadAnnounce) : DepthStage :=
  match view with
  | none => ⟨0, 0, true, b.prevD, b.prevH, true, b.prevOwner⟩
  | some a =>
    let d := a.d.toNat
    let h := a.dmax.toNat
    if b.depthHeld || b.prevOwner != owner then ⟨0, 0, true, d, h, false, owner⟩
    else ⟨(d : Int) - b.prevD, if b.prevH ≤ h then (h : Int) - b.prevH else 0, false, d, h, false, owner⟩

/-- The volume and the residue of a depth change in mm at a volume in mL per metre (R112). -/
def volumeWithResidue (change : Int) (perMetre : Nat) (residue : Int) : Int × Int :=
  let n := change * perMetre + residue
  let v := n.tdiv 100
  (v, n - 100 * v)

/-! ### The imbalance and the window (R113, R114) -/

/-- A value saturated at ±`limit`. -/
def clampInt (limit v : Int) : Int := max (-limit) (min limit v)

/-- A period's imbalance written into the window; B kept by subtracting and adding (R114). -/
def Balance.pushed (b : Balance) (e : Int) (degraded : Bool) : Balance :=
  { b with
    window := put b.window b.position ⟨e, degraded⟩
    position := b.position + 1
    sum := b.sum - b.window[b.position].value + e }

/-- The degraded count: the slots whose mark is set (R114). -/
def Balance.degradedCount (b : Balance) : Nat := b.window.toList.countP (·.degraded)

/-! ### The condition (R115) -/

/-- The underlying condition judged against B (R115). -/
def judgeCondition (c : MudConfig) (sum : Int) (now : BalanceCondition) : BalanceCondition :=
  let loss := decide (sum ≤ -(c.lossThreshold * 10000 : Nat))
  let gain := decide ((c.gainThreshold * 10000 : Nat) ≤ sum)
  match now with
  | .normal => if loss then .loss else if gain then .gain else .normal
  | .loss => if gain then .gain else if sum.natAbs < c.lossThreshold * 5000 then .normal else .loss
  | .gain => if loss then .loss else if sum.natAbs < c.gainThreshold * 5000 then .normal else .gain
  | .degraded => .degraded

/-- The conditions after an expiry: announced DEGRADED with 8 marks or more, judged otherwise (R115). -/
def Balance.judged (b : Balance) (c : MudConfig) : Balance :=
  if 8 ≤ b.degradedCount then { b with announced := .degraded }
  else
    let u := judgeCondition c b.sum b.underlying
    { b with underlying := u, announced := u }

/-- The totals after an imbalance (R117). -/
def Balance.totalled (b : Balance) (deadband : Nat) (e : Int) : Balance :=
  if e.natAbs ≤ deadband * 10 then b
  else if 0 < e then { b with gainTotal := satAdd Config.totalLimit b.gainTotal e.natAbs }
  else { b with lossTotal := satAdd Config.totalLimit b.lossTotal e.natAbs }

/-! ### One period (R108) -/

/-- What one expiry computes: the balance unit after it. -/
def Balance.period (c : MudConfig) (owner : Option Station) (view : Option HeadAnnounce) (b : Balance) :
    Balance :=
  let stages := pitStages c b.pits
  let depth := b.depthStage owner view
  let steel := volumeWithResidue depth.steel c.steel b.steelResidue
  let hole := volumeWithResidue depth.hole c.hole b.holeResidue
  let water : Int := (b.water * c.waterFactor * 10 : Nat)
  let exact := (stages.map (·.change)).sum - water - steel.1 + hole.1
  let e := clampInt Config.imbalanceLimit exact
  let degraded := stages.any (·.degraded) || depth.degraded
  let b' : Balance := { b with
    pits := pitsAfter c b.pits, prevD := depth.prevD, prevH := depth.prevH, depthHeld := depth.held
    prevOwner := depth.owner, steelResidue := steel.2, holeResidue := hole.2, water := 0
    last := e, lastSaturated := e != exact }
  ((b'.pushed e degraded).judged c).totalled c.deadband e

/-- An entry into LOSS or GAIN (R115, R116). -/
def Balance.entered (old new : Balance) : Bool :=
  new.underlying != old.underlying && new.underlying != .normal

/-- The balance unit's part of an expiry: the period, BALANCE_ALARM at an entry, FLOW_GAIN at an entry into
GAIN (R116). -/
def State.balancePeriod (c : MudConfig) (s : State) : State :=
  let b := s.bal.period c (s.owner .head) (freshContent s.headView)
  let s' := ({ s with bal := b } : State).raiseIf (s.bal.entered b) .balanceAlarm
  if s.bal.entered b && b.underlying == .gain then s'.placeReason .flowGain else s'

/-- BALANCE_PERIOD_EXPIRY (R108, R99, R101). -/
def execBalancePeriodExpiry (s : State) : Host.Outcome State Fault Refusal :=
  .next (
    if s.acts .mud then
      match s.node.mud with
      | some c =>
        let s' : State := { s with timers := { s.timers with balance := some (s.now + Config.twoSeconds) } }
        (s'.circulationPeriod c).balancePeriod c
      | none => s
    else s)

/-! ### What is announced (R118) -/

/-- B in whole litres, half rounded away from zero (R118). -/
def litres (sum : Int) : Int :=
  let q : Int := ((sum.natAbs + 5000) / 10000 : Nat)
  if sum < 0 then -q else q

end Sys2Proof.Machine
end

