-- ==== Sys2Proof/Machine/Crc.lean ====
section
/-! DEFINITION. The part's CRC-16 (R21), used for frames and for strata records. -/

namespace Sys2Proof.Machine

/-- One bit fed: the register's top bit is compared with the input bit, the register is shifted left by
one, and combined with 0x8005 if the two differed (R21). -/
def crcBit (r : BitVec 16) (b : Bool) : BitVec 16 :=
  if r.msb != b then (r <<< 1) ^^^ 0x8005#16 else r <<< 1

/-- The bits of a number, most significant of `n` first (R20). -/
def bitsOf : Nat → Nat → List Level
  | 0, _ => []
  | n + 1, v => v.testBit n :: bitsOf n v

/-- One byte fed, most significant bit first. -/
def crcByte (r : BitVec 16) (b : Byte) : BitVec 16 := (bitsOf 8 b.toNat).foldl crcBit r

/-- The CRC of a byte string: from 0xFFFF, no final inversion (R21). -/
def crc (bs : List Byte) : BitVec 16 := bs.foldl crcByte 0xFFFF#16

end Sys2Proof.Machine
end

