-- ==== Sys2Proof/Machine/Formats.lean ====
section
/-! DEFINITION. The fixed layouts of frames and records (R171, R172): payload bytes from contents, contents
from payload bytes, rod records and strata records. -/

namespace Sys2Proof.Machine

/-! ### Frame payloads: contents to bytes (R171) -/

/-- A last directive result: three bytes, all 0 while it is absent. -/
def resultField : Option DirectiveResult → List Byte
  | none => [0#8, 0#8, 0#8]
  | some r => [BitVec.ofNat 8 (128 + r.source.val * 16 + r.code.toNat), r.result, r.field]

def fourField (v : Vector (BitVec 32) 4) : List Byte :=
  be 4 v[0].toNat ++ be 4 v[1].toNat ++ be 4 v[2].toNat ++ be 4 v[3].toNat

def presencePayload (p : Presence) : List Byte :=
  BitVec.ofNat 8 (roleNibble p.held * 16 + roleNibble p.yielded) ::
  BitVec.ofNat 8 (p.running.toNat * 128 + p.holding.isSome.toNat * 64 +
    (match p.holding with
      | none => 0
      | some r => codeOf holdReasonTable r)) ::
  be 2 p.epoch.toNat

def mudPayload (a : MudAnnounce) : List Byte :=
  BitVec.ofNat 8 (a.circ.toNat * 32 + codeOf conditionTable a.condition * 8 +
    a.returnsAbsent.toNat * 4) ::
  BitVec.ofNat 8 (a.pump1.toNat * 32 + a.pump2.toNat * 4) ::
  (be 4 a.flowIn.toNat ++ be 2 a.pressure.toNat ++ be 3 a.balance.toNat ++ be 4 a.gain.toNat ++
    be 4 a.loss.toNat ++ be 4 a.running1.toNat ++ be 4 a.running2.toNat ++ fourField a.additives ++
    be 2 a.epoch.toNat ++ resultField a.result)

def handlerPayload (a : HandlerAnnounce) : List Byte :=
  BitVec.ofNat 8 (a.kind.toNat * 64 + a.stringOpen.toNat * 32 + a.permit.toNat * 16 + a.step.toNat) ::
  (be 3 a.length.toNat ++ be 1 a.entries.toNat ++ be 2 a.topRod.toNat ++ be 1 a.remaining.toNat ++
    be 4 a.makeups.toNat ++ be 4 a.breakouts.toNat ++ be 2 a.epoch.toNat ++ resultField a.result)

def headPayload (a : HeadAnnounce) : List Byte :=
  be 4 a.d.toNat ++ be 4 a.dmax.toNat ++
  [BitVec.ofNat 8 (codeOf trackingTable a.tracking * 64 + a.onBottom.toNat * 32 +
    codeOf lithologyTable a.lithology)] ++
  be 4 a.rop.toNat ++ be 4 a.sequence.toNat ++ fourField a.footage ++ be 2 a.epoch.toNat ++
  resultField a.result

def cabPayload (a : CabAnnounce) : List Byte :=
  BitVec.ofNat 8 (codeOf jobStateTable a.jobState * 64 + a.activity.toNat) ::
  (be 2 a.jobNumber.toNat ++ be 2 a.epoch.toNat)

def announcementPayload : Announcement → List Byte
  | .mud a => mudPayload a
  | .handler a => handlerPayload a
  | .head a => headPayload a
  | .cab a => cabPayload a

/-- The payload bytes of a frame. -/
def payload : Frame → List Byte
  | .holdSet r => [r]
  | .holdRelease => []
  | .directive d => d.role :: d.code :: d.arg
  | .announce a => announcementPayload a
  | .presence p => presencePayload p

/-- The kind codes of R22. -/
def frameKind : Frame → Nat
  | .holdSet _ => 0
  | .holdRelease => 1
  | .directive _ => 2
  | .announce (.mud _) => 3
  | .announce (.handler _) => 4
  | .announce (.head _) => 5
  | .announce (.cab _) => 6
  | .presence _ => 7

/-- The payload sizes of R171 that R25 checks. -/
def lengthAllowed : Nat → Nat → Bool
  | 0, n => n == 1
  | 1, n => n == 0
  | 2, n => 2 ≤ n && n ≤ 6
  | 3, n => n == 48
  | 4, n => n == 21
  | 5, n => n == 38
  | 6, n => n == 5
  | 7, n => n == 4
  | _, _ => false

/-! ### Frame payloads: bytes to contents. Every payload of an allowed length has one (R25, log 25). -/

/-- Bits `lo` to `lo + n - 1` of the byte at place `i`. -/
def bitsAt (bs : List Byte) (i lo n : Nat) : Nat := numAt bs i 1 / 2 ^ lo % 2 ^ n

def bitAt (bs : List Byte) (i lo : Nat) : Bool := bitsAt bs i lo 1 == 1

def resultAt (bs : List Byte) (i : Nat) : Option DirectiveResult :=
  if bitAt bs i 7 then
    some ⟨Fin.ofNat 8 (bitsAt bs i 4 3), BitVec.ofNat 4 (bitsAt bs i 0 4), byteAt bs (i + 1),
      byteAt bs (i + 2)⟩
  else none

def fourAt (bs : List Byte) (i : Nat) : Vector (BitVec 32) 4 :=
  #v[quadAt bs i, quadAt bs (i + 4), quadAt bs (i + 8), quadAt bs (i + 12)]

def presenceOf (bs : List Byte) : Option Presence := do
  let reason ← holdReasonTable[bitsAt bs 1 0 2]?
  some ⟨roleSetOf (bitsAt bs 0 4 4), roleSetOf (bitsAt bs 0 0 4), bitAt bs 1 7,
    if bitAt bs 1 6 then some reason else none, wordAt bs 2⟩

def mudOf (bs : List Byte) : Option MudAnnounce := do
  let condition ← conditionTable[bitsAt bs 0 3 2]?
  some { circ := BitVec.ofNat 3 (bitsAt bs 0 5 3), condition, returnsAbsent := bitAt bs 0 2
         pump1 := BitVec.ofNat 3 (bitsAt bs 1 5 3), pump2 := BitVec.ofNat 3 (bitsAt bs 1 2 3)
         flowIn := quadAt bs 2, pressure := wordAt bs 6, balance := BitVec.ofNat 24 (numAt bs 8 3), gain := quadAt bs 11
         loss := quadAt bs 15, running1 := quadAt bs 19, running2 := quadAt bs 23
         additives := fourAt bs 27, epoch := wordAt bs 43, result := resultAt bs 45 }

def handlerOf (bs : List Byte) : HandlerAnnounce :=
  { kind := BitVec.ofNat 2 (bitsAt bs 0 6 2), stringOpen := bitAt bs 0 5, permit := bitAt bs 0 4
    step := BitVec.ofNat 4 (bitsAt bs 0 0 4)
    length := BitVec.ofNat 24 (numAt bs 1 3), entries := byteAt bs 4, topRod := wordAt bs 5
    remaining := byteAt bs 7, makeups := quadAt bs 8, breakouts := quadAt bs 12
    epoch := wordAt bs 16, result := resultAt bs 18 }

def headOf (bs : List Byte) : Option HeadAnnounce := do
  let state ← trackingTable[bitsAt bs 8 6 2]?
  let lithology ← lithologyTable[bitsAt bs 8 0 4]?
  some { d := quadAt bs 0, dmax := quadAt bs 4, tracking := state, onBottom := bitAt bs 8 5, lithology
         rop := quadAt bs 9, sequence := quadAt bs 13, footage := fourAt bs 17, epoch := wordAt bs 33
         result := resultAt bs 35 }

def cabOf (bs : List Byte) : Option CabAnnounce := do
  let jobState ← jobStateTable[bitsAt bs 0 6 2]?
  some ⟨jobState, BitVec.ofNat 3 (bitsAt bs 0 0 3), wordAt bs 1, wordAt bs 3⟩

/-- The frame of a kind code and a payload of an allowed length. -/
def frameOf (kind : Nat) (bs : List Byte) : Option Frame :=
  match kind with
  | 0 => some (.holdSet (byteAt bs 0))
  | 1 => some .holdRelease
  | 2 => some (.directive ⟨byteAt bs 0, byteAt bs 1, bs.drop 2⟩)
  | 3 => (mudOf bs).map (.announce ∘ .mud)
  | 4 => some (.announce (.handler (handlerOf bs)))
  | 5 => (headOf bs).map (.announce ∘ .head)
  | 6 => (cabOf bs).map (.announce ∘ .cab)
  | 7 => (presenceOf bs).map .presence
  | _ => none

/-! ### Rod records (R172) -/

/-- The 9 bytes of a rod record; an empty place is 9 bytes of 0. -/
def rodField : Option Rod → List Byte
  | none => be 4 0 ++ be 4 0 ++ be 1 0
  | some r =>
    be 2 r.id ++ be 1 (codeOf rodStatusTable r.status * 128 + codeOf rodKindTable r.kind) ++
    be 2 r.length ++ be 2 r.makeups ++ be 2 (r.registeredAt.getD 0xFFFF)

/-! ### Strata records (R172) -/

def flagsByte (f : StrataFlags) : Nat :=
  f.water.toNat + f.depthMismatch.toNat * 2 + f.mudGap.toNat * 4 + f.balanceDegraded.toNat * 8 +
  f.overrun.toNat * 16 + f.storeFault.toNat * 32

/-- The remark count and the four remark bytes, unused bytes 0. -/
def remarksField (rs : List Byte) : List Byte :=
  be 1 rs.length ++ (rs ++ List.replicate 4 0#8).take 4

/-- Bytes 4 to 48 of a record: everything but the sequence number and the CRC. -/
def bodyField (b : StrataBody) : List Byte :=
  be 2 b.jobNumber ++ be 4 b.top ++ be 4 b.bottom ++
  be 1 (codeOf bandTable b.band * 16 + codeOf lithologyTable b.lithology) ++
  timeField b.openTime ++ timeField b.closeTime ++ be 4 b.bottomSeconds ++ be 4 b.revolutions ++
  be 4 b.meanRop ++ be 4 b.mudGain ++ be 4 b.mudLoss ++ be 1 (flagsByte b.flags) ++
  remarksField b.remarks

/-- The CRC of a record: over bytes 0 to 48 of its fetch layout (R137, R172). -/
def recordCrc (sequence : Nat) (b : StrataBody) : BitVec 16 := crc (be 4 sequence ++ bodyField b)

/-- The 51 bytes of a record in its fetch layout, with the CRC as stored. -/
def recordField (r : StrataRecord) : List Byte :=
  be 4 r.sequence ++ bodyField r.body ++ be 2 r.crc.toNat

/-- The scan's check: the recomputed CRC is the stored one (R144). -/
def StrataRecord.sound (r : StrataRecord) : Bool := recordCrc r.sequence r.body == r.crc

end Sys2Proof.Machine
end

