-- ==== Sys2Proof/Machine/Strata.lean ====
section
/-! DEFINITION. Chapter 9, Strata Log: lithology, the open interval, closing and splitting, the store, the
fetch cursor and the verify scan (R132 to R145). -/

namespace Sys2Proof.Machine

/-! ### Lithology (R132) -/

/-- The band of a lithology class (R132). -/
def bandOf : Lithology → Band
  | .topsoil | .clay | .silt | .sand => .soft
  | .gravel | .siltstone | .shale | .weatheredRock => .medium
  | .boulder | .sandstone | .conglomerate | .limestone => .hard
  | .granite | .gneiss | .basalt | .quartzite => .extraHard

/-! ### The open interval (R133 to R135) -/

/-- The open interval changed. -/
def State.mapInterval (f : Interval → Interval) (s : State) : State :=
  { s with log := { s.log with current := f s.log.current } }

/-- The configured interval length; 0, at which no boundary is ever reached, without the HEAD group (R133,
log 32, 49). -/
def State.intervalLength (s : State) : Nat :=
  match s.node.head with
  | some c => c.intervalLength
  | none => 0

/-- The next boundary above a depth at or below the grid base (R133). -/
def Interval.nextBoundary (iv : Interval) (length depth : Nat) : Nat :=
  iv.gridBase + ((depth - iv.gridBase) / length + 1) * length

/-- The MUD baseline read now (R134). -/
def State.mudBaseline (s : State) : Option MudBaseline :=
  (lastHeard s.mudView).map fun a => ⟨a.gain.toNat, a.loss.toNat, a.epoch⟩

/-- The job number read now: the CAB view's while it is FRESH and shows OPEN, 0 otherwise (R134). -/
def State.openJobNumber (s : State) : Nat :=
  match freshContent s.cabView with
  | some a => if a.jobState = .opened then a.jobNumber.toNat else 0
  | none => 0

/-- An interval opened at a depth with a class, a number and carried tenths (R134). -/
def State.openedInterval (s : State) (sequence depth : Nat) (lithology : Lithology) (tenths : Nat) :
    Interval :=
  { sequence := sequence, gridBase := depth, top := depth, lithology := lithology
    jobNumber := s.openJobNumber, openTime := s.timeStamp, bottomSeconds := 0, bottomTenths := tenths
    revolutions := 0, baseline := s.mudBaseline, flags := .none, remarks := [], lower := none }

/-- One 100 ms step on bottom (R135). -/
def Interval.tick (iv : Interval) : Interval :=
  if iv.bottomTenths = 9 then
    { iv with bottomTenths := 0, bottomSeconds := satAdd max32 iv.bottomSeconds 1 }
  else { iv with bottomTenths := iv.bottomTenths + 1 }

/-- A depth mismatch handed by the tracker (R125, R126, R135). -/
def State.depthMismatch (s : State) : State :=
  (s.raise .depthMismatch).mapInterval fun iv =>
    { iv with flags := { iv.flags with depthMismatch := true } }

/-- The bit is within one interval length of the bottom, or on it (R135). -/
def State.nearBottom (s : State) : Bool :=
  s.depth.onBottom || decide (s.depth.dmax ≤ s.depth.d + s.intervalLength)

/-- A MUD owner arrival as the log reads it: BALANCE_DEGRADED and the automatic WATER flag (R135). -/
def State.logMudArrival (condition : BalanceCondition) (s : State) : State :=
  let degraded := condition == .degraded
  let entry := condition == .gain && s.log.kept != some .gain && s.nearBottom
  let s' := s.mapInterval fun iv => { iv with flags := { iv.flags with
      balanceDegraded := iv.flags.balanceDegraded || degraded
      water := iv.flags.water || entry } }
  if degraded then s' else { s' with log := { s'.log with kept := some condition } }

/-! ### Closing (R137) -/

/-- Mud gain, mud loss and MUD_GAP of a close made now. -/
structure MudFigures where
  gain : Nat
  loss : Nat
  gap : Bool

/-- One cumulative figure against its baseline: the difference, or the figure itself after a restart. -/
def sinceBaseline (close base : Nat) : Nat := if base ≤ close then close - base else close

def State.mudFigures (s : State) : MudFigures :=
  match lastHeard s.mudView, s.log.current.baseline with
  | none, _ => ⟨0, 0, true⟩
  | some a, none => ⟨a.gain.toNat, a.loss.toNat, true⟩
  | some a, some b =>
    ⟨sinceBaseline a.gain.toNat b.gain, sinceBaseline a.loss.toNat b.loss,
     decide (a.gain.toNat < b.gain) || decide (a.loss.toNat < b.loss) || (freshContent s.mudView).isNone⟩

/-- Mean ROP, in mm/min, rounded half up; 0 without on-bottom seconds (R137). -/
def meanRop (length seconds : Nat) : Nat :=
  if seconds = 0 then 0 else (length * 120 + seconds) / (2 * seconds)

/-- The open interval, or its upper part, formed into a record body with the bottom given (R137). -/
def State.closedBody (s : State) (bottom : Nat) : StrataBody :=
  let iv := s.log.current
  let mud := s.mudFigures
  { jobNumber := iv.jobNumber, top := iv.top, bottom := bottom, lithology := iv.lithology
    band := bandOf iv.lithology, openTime := iv.openTime, closeTime := s.timeStamp
    bottomSeconds := iv.bottomSeconds, revolutions := iv.revolutions
    meanRop := meanRop (bottom - iv.top) iv.bottomSeconds, mudGain := mud.gain, mudLoss := mud.loss
    flags := { iv.flags with mudGap := iv.flags.mudGap || mud.gap }, remarks := iv.remarks }

/-- The parts a close at a depth writes: the lower part first, if present (R139). -/
def State.closedParts (s : State) (bottom : Nat) : List StrataBody :=
  s.log.current.lower.toList ++ [s.closedBody bottom]

/-- The number of records a close would make. -/
def Interval.parts (iv : Interval) : Nat := if iv.lower.isSome then 2 else 1

/-- The store takes a close that makes `n` records: room, no latch, and numbers for the records and for the
interval after them (R137, log 18). -/
def StrataLog.takes (g : StrataLog) (n : Nat) : Bool :=
  decide (g.store.length + n ≤ Config.storeCapacity) && !g.latch &&
  decide (g.current.sequence + n ≤ max32)

/-- Bodies as records with consecutive numbers and their CRCs. -/
def numbered (sequence : Nat) : List StrataBody → List StrataRecord
  | [] => []
  | b :: bs => ⟨sequence, b, recordCrc sequence b⟩ :: numbered (sequence + 1) bs

/-- Records written at the newest end; STORE_NEAR_FULL when the count comes to 360 (R137, R141). -/
def State.writeRecords (bodies : List StrataBody) (s : State) : State :=
  let store := s.log.store ++ numbered s.log.current.sequence bodies
  ({ s with log := { s.log with store := store } } : State).raiseIf
    (decide (s.log.store.length < Config.nearFull) && decide (Config.nearFull ≤ store.length))
    .storeNearFull

/-- A close the store takes: the parts written, a new interval opened at a depth with a class (R137). -/
def State.closeInterval (bottom depth : Nat) (lithology : Lithology) (s : State) : State :=
  let iv := s.log.current
  (s.writeRecords (s.closedParts bottom)).mapInterval fun _ =>
    s.openedInterval (iv.sequence + iv.parts) depth lithology iv.bottomTenths

/-- The flags of an interval whose close the store did not take (R138, R139). -/
def StrataFlags.overran (f : StrataFlags) (latch : Bool) : StrataFlags :=
  { f with overrun := true, storeFault := f.storeFault || latch }

/-- A rise of Dmax handed by the tracker (R138). -/
def State.logRise (old new : Nat) (s : State) : State :=
  let iv := s.log.current
  let boundary := iv.nextBoundary s.intervalLength old
  if old < boundary ∧ boundary ≤ new then
    if s.log.takes iv.parts then s.closeInterval boundary boundary iv.lithology
    else s.mapInterval fun iv => { iv with flags := iv.flags.overran s.log.latch }
  else s

/-! ### SET_LITHOLOGY (R139) -/

/-- The interval split at Dmax: a lower part, and the upper part that goes on (R139). -/
def State.splitInterval (lithology : Lithology) (s : State) : State :=
  s.mapInterval fun iv =>
    { s.openedInterval iv.sequence s.depth.dmax lithology iv.bottomTenths with
      gridBase := iv.gridBase
      flags := { StrataFlags.none with storeFault := iv.flags.storeFault }.overran s.log.latch
      lower := some (s.closedBody s.depth.dmax) }

/-- The lower part written alone, the upper part going on under the next number with its own grid base (R139,
log 19). -/
def State.writeLower (lower : StrataBody) (s : State) : State :=
  (s.writeRecords [lower]).mapInterval fun iv => { iv with sequence := iv.sequence + 1, lower := none }

def State.reclassified (lithology : Lithology) (s : State) : State :=
  s.mapInterval fun iv => { iv with lithology := lithology }

def outcomeReply (o : LithologyOutcome) : Reply := okWith (codeByte outcomeTable o)

def setLithologyRequest (lithology : Byte) (s : State) : Answered :=
  match lithologyTable[lithology.toNat]? with
  | none => (badValue 1, s)
  | some c =>
    let iv := s.log.current
    if s.depth.dmax ≤ iv.top then
      let s' := match iv.lower with
        | some b => if s.log.takes 1 then s.writeLower b else s
        | none => s
      (outcomeReply .reclassified, s'.reclassified c)
    else if s.log.takes iv.parts then
      (outcomeReply .closed, s.closeInterval s.depth.dmax s.depth.dmax c)
    else if iv.lower.isNone then (outcomeReply .split, s.splitInterval c)
    else (outcomeReply .reclassified, s.reclassified c)

/-- SET_LITHOLOGY (R139). -/
def execSetLithology (lithology : Byte) (s : State) : Host.Outcome State Fault Refusal :=
  answered (.setLithology lithology) (s.runningRequest .head (setLithologyRequest lithology))

/-! ### ADD_REMARK and MARK_WATER (R136) -/

def addRemarkRequest (code : Byte) (s : State) : Answered :=
  let iv := s.log.current
  if code = 0#8 then (badValue 1, s)
  else if 4 ≤ iv.remarks.length then s.refused .remarksFull
  else (okWith (be 1 (iv.remarks.length + 1)),
    s.mapInterval fun iv => { iv with remarks := iv.remarks ++ [code] })

/-- ADD_REMARK (R136). -/
def execAddRemark (code : Byte) (s : State) : Host.Outcome State Fault Refusal :=
  answered (.addRemark code) (s.runningRequest .head (addRemarkRequest code))

def markWaterRequest (s : State) : Answered :=
  (okWith [], s.mapInterval fun iv => { iv with flags := { iv.flags with water := true } })

/-- MARK_WATER (R136). -/
def execMarkWater (s : State) : Host.Outcome State Fault Refusal :=
  answered .markWater (s.runningRequest .head markWaterRequest)

/-! ### NEW_HOLE at the log (R140) -/

/-- The open interval given up, a new one opened at depth 0 with a number. -/
def State.reopenInterval (sequence : Nat) (s : State) : State :=
  s.mapInterval fun iv => s.openedInterval sequence 0 iv.lithology 0

/-- The open interval discarded with its `parts` counted. -/
def State.discardInterval (parts : Nat) (s : State) : State :=
  ({ s with log := { s.log with discards := satAdd 255 s.log.discards parts } } : State).reopenInterval
    s.log.current.sequence

/-- NEW_HOLE handed by the tracker with the hole depth before it (R140, log 19). -/
def State.logNewHole (old : Nat) (s : State) : State :=
  let iv := s.log.current
  if old ≤ iv.top then
    match iv.lower with
    | none => s.reopenInterval iv.sequence
    | some b =>
      if s.log.takes 1 then (s.writeRecords [b]).reopenInterval (iv.sequence + 1) else s.discardInterval 1
  else if s.log.takes iv.parts then s.closeInterval old 0 iv.lithology
  else s.discardInterval iv.parts

/-! ### The store and the fetch cursor (R141 to R143) -/

/-! The store is one contiguous run of numbers that ends one below the open interval's (R141), so a record's
number follows from its place, whatever its own sequence field reads as (log 37). -/

/-- The number of the oldest record, or of the open interval when the store is empty. -/
def StrataLog.oldest (g : StrataLog) : Nat := g.current.sequence - g.store.length

/-- The number of the oldest record, if there is one. -/
def StrataLog.oldestStored (g : StrataLog) : Option Nat := if g.store = [] then none else some g.oldest

/-- The number of the newest record, if there is one. -/
def StrataLog.newestStored (g : StrataLog) : Option Nat :=
  if g.store = [] then none else some (g.current.sequence - 1)

def trimRequest (count : BitVec 16) (s : State) : Answered :=
  let n := count.toNat
  if s.log.scan.state = .inFlight then s.refused .storeBusy
  else if n = 0 ∨ s.log.store.length < n then (badValue 1, s)
  else
    let g := { s.log with store := s.log.store.drop n }
    (okWith (be 2 g.store.length), { s with log := { g with cursor := max g.cursor g.oldest } })

/-- TRIM (R142). -/
def execTrim (count : BitVec 16) (s : State) : Host.Outcome State Fault Refusal :=
  answered (.trim count) (s.runningRequest .head (trimRequest count))

/-- The record of a number, if it is stored. -/
def StrataLog.record (g : StrataLog) (number : Nat) : Option StrataRecord :=
  if g.oldest ≤ number then g.store[number - g.oldest]? else none

/-- The record number that a form of FETCH_RECORD names (R143); none for a form that does not exist. -/
def fetchNumber (form : Byte) (sequence : BitVec 32) (g : StrataLog) : Option Nat :=
  match form.toNat with
  | 0 => some g.oldest
  | 1 => some g.cursor
  | 2 => some sequence.toNat
  | _ => none

def fetchRecordRequest (form : Byte) (sequence : BitVec 32) (s : State) : Answered :=
  match fetchNumber form sequence s.log with
  | none => (badValue 1, s)
  | some n =>
    match s.log.record n with
    | none => s.refused .noSuchRecord
    | some r => (okWith (recordField r), { s with log := { s.log with cursor := n + 1 } })

/-- FETCH_RECORD (R143): taken in every node state. -/
def execFetchRecord (form : Byte) (sequence : BitVec 32) (s : State) :
    Host.Outcome State Fault Refusal :=
  answered (.fetchRecord form sequence) (s.roleRequest .head (fetchRecordRequest form sequence))

/-- READ_CURSOR (R143): taken in every node state. -/
def execReadCursor (s : State) : Host.Outcome State Fault Refusal :=
  answered .readCursor (s.roleRequest .head fun s => (okWith (be 4 s.log.cursor), s))

/-! ### The verify scan (R144, R145) -/

/-- A scan begun now over the records present; over none it ends clean at once (R144). The faulty number of an
earlier scan is dropped here, which is the model's choice (log 37). -/
def State.beginScan (s : State) : State :=
  if s.log.store = [] then
    { s with
      log := { s.log with scan := ⟨.clean, none, none, none⟩ }
      timers := { s.timers with scan := none } }
  else
    { s with
      log := { s.log with scan := ⟨.inFlight, s.log.oldestStored, s.log.newestStored, none⟩ }
      timers := { s.timers with scan := some (s.now + Config.scanStep) } }

def verifyRequest (s : State) : Answered :=
  if s.log.scan.state = .inFlight then s.refused .storeBusy
  else (okWith (be 2 s.log.store.length), s.beginScan)

/-- VERIFY (R144). -/
def execVerify (s : State) : Host.Outcome State Fault Refusal :=
  answered .verify (s.runningRequest .head verifyRequest)

/-- One record checked, `number` being the scan's position: the scan goes on, ends clean at its fixed end, or
ends faulty with the latch set and STORE_FAULT raised (R144, R145). Position and fixed end stay as they are
when it ends (log 37). -/
def State.scanRecord (number : Nat) (r : StrataRecord) (s : State) : State :=
  let k := s.log.scan
  if r.sound then
    if k.last = some number then
      { s with
        log := { s.log with scan := { k with state := .clean } }
        timers := { s.timers with scan := none } }
    else
      { s with
        log := { s.log with scan := { k with position := some (number + 1) } }
        timers := { s.timers with scan := some (s.now + Config.scanStep) } }
  else
    ({ s with
        log := { s.log with scan := { k with state := .fault, faulty := some number }, latch := true }
        timers := { s.timers with scan := none } } : State).raise .storeFault

/-- VERIFY_SCAN_STEP (R144): the record at the scan's position, while a scan is in flight. -/
def execVerifyScanStep (s : State) : Host.Outcome State Fault Refusal :=
  .next (if s.log.scan.state = .inFlight then
    match s.log.scan.position with
    | some n =>
      match s.log.record n with
      | some r => s.scanRecord n r
      | none => s
    | none => s
  else s)

end Sys2Proof.Machine
end

