-- ==== Sys2Proof/Machine/Depth.lean ====
section
/-! DEFINITION. Chapter 8, Depth Tracking: the encoder count, the home switch, tracking states, bit and hole
depth, on-bottom and rate of penetration (R121 to R131). -/

namespace Sys2Proof.Machine

/-- An event taken by the acting HEAD block with its configuration. -/
def State.asHead (s : State) (f : HeadConfig → State) : State :=
  if s.acts .head then
    match s.node.head with
    | some c => f c
    | none => s
  else s

/-- The head height H of a count, in mm (R123). -/
def HeadConfig.height (c : HeadConfig) (count : Nat) : Nat := count * c.micronsPerCount / 1000

/-- D = L - H - K, 0 when negative (R124). -/
def HeadConfig.bitDepth (c : HeadConfig) (length count : Nat) : Nat :=
  length - (c.height count + c.tableHeight)

/-- L for a recomputation: last heard, else the L last used (R124). -/
def State.heardLength (s : State) : Nat :=
  match lastHeard s.handlerView with
  | some a => a.length.toNat
  | none => s.depth.lastL

/-! ### On-bottom (R128) -/

/-- On-bottom judged again and handed to the log (R128, R135). -/
def State.judgeBottom (c : HeadConfig) (s : State) : State :=
  let b := s.depth.tracking == .tracking && decide (s.depth.dmax ≤ s.depth.d + c.bottomTolerance) &&
    s.depth.rotation.isSome
  { s with depth := { s.depth with onBottom := b }, log := { s.log with onBottom := b } }

/-! ### Taking a new D (R124) -/

/-- A recomputed D taken as a rebase. -/
def Depth.rebased (t : Depth) (d : Nat) : Depth := { t with d := d, advance := max t.advance d }

/-- A recomputed D taken as drilling: Dmax, the advance depth and the band's footage grow by what lies above
the advance depth. -/
def Depth.advanced (t : Depth) (d : Nat) (band : Fin 4) : Depth :=
  if t.advance < d then
    let growth := d - t.advance
    { t with
      d := d, dmax := t.dmax + growth, advance := d
      footage := put t.footage band (satAdd max32 t.footage[band] growth) }
  else { t with d := d }

/-- A recomputed D taken as drilling, an increase of Dmax handed to the log after the footage (R124). -/
def State.advanceTo (d : Nat) (s : State) : State :=
  let t := s.depth.advanced d (bandIndex (bandOf s.log.current.lithology))
  ({ s with depth := t } : State).logRise s.depth.dmax t.dmax

/-- D recomputed after a change of the count in TRACKING: a rebase while the jump-held mark is set, which it
clears, otherwise drilling (R124, R125). The limit of 500 mm is not applied here, even where a new HANDLER owner named
without an arrival brings another L (log 45). -/
def State.recomputed (c : HeadConfig) (s : State) : State :=
  let l := s.heardLength
  let d := c.bitDepth l s.depth.count
  if s.depth.jumpHeld then
    { s with depth := { s.depth.rebased d with jumpHeld := false, lastL := l } }
  else s.advanceTo d

/-! ### The encoder (R121) -/

/-- A single line change in the upward sense; `upSense` says which line leads going up (log 12). -/
def upward (upSense a b a' : Level) (b' : Level) : Bool :=
  (if a != a' then a' != b else b' == a) == upSense

/-- The encoder fault: count and D held, UNHOMED, the jump-held mark clear (R121, R125). -/
def State.encoderFault (c : HeadConfig) (s : State) : State :=
  (({ s with depth := { s.depth with
      tracking := .unhomed, jumpHeld := false, driveRise := none } } : State).raise .encoderFault).judgeBottom c

/-- A count moved by one; D follows in TRACKING (R121, R123). -/
def State.counted (c : HeadConfig) (up : Bool) (s : State) : State :=
  let n := if up then min c.travelCount (s.depth.count + 1) else s.depth.count - 1
  if n = s.depth.count then s
  else
    let s' : State := { s with depth := { s.depth with count := n } }
    (if s'.depth.tracking = .tracking then s'.recomputed c else s').judgeBottom c

/-- ENCODER_LINE_CHANGE (R121): the new pair is recorded in every state; outside UNHOMED an acting HEAD
block counts it or finds a fault. -/
def execEncoderLineChange (a b : Level) (s : State) : Host.Outcome State Fault Refusal :=
  let s' : State := { s with pins := { s.pins with encA := a, encB := b } }
  .next (
    if s.depth.tracking = .unhomed ∨ (a = s.pins.encA ∧ b = s.pins.encB) then s'
    else s'.asHead fun c =>
      if a ≠ s.pins.encA ∧ b ≠ s.pins.encB then s'.encoderFault c
      else s'.counted c (upward s.pins.upSense s.pins.encA s.pins.encB a b))

/-! ### Homing and the drive (R122, R123, R126) -/

/-- The count loaded by the home switch (R122). -/
def State.homed (c : HeadConfig) (s : State) : State :=
  let t := { s.depth with count := c.travelCount }
  let t' := match t.tracking with
    | .unhomed =>
      if s.pins.headDrive then { t with tracking := .resync, driveRise := some s.now }
      else { t with tracking := .frozen }
    | .tracking =>
      let l := s.heardLength
      let r := t.rebased (c.bitDepth l t.count)
      { r with jumpHeld := false, lastL := if t.jumpHeld then l else t.lastL }
    | .frozen | .resync => t
  ({ s with depth := t' } : State).judgeBottom c

/-- HOME_SWITCH_EDGE (R122): the level is recorded in every state; an edge loads the count. -/
def execHomeSwitchEdge (closed : Level) (s : State) : Host.Outcome State Fault Refusal :=
  let s' : State := { s with pins := { s.pins with home := closed } }
  .next (if closed = s.pins.home then s' else s'.asHead fun c => s'.homed c)

/-- The tracker after the drive connected input has changed (R123, R125, R126). -/
def Depth.driveChanged (t : Depth) (level : Level) (now : Nat) : Depth :=
  match t.tracking, level with
  | .tracking, false => { t with tracking := .frozen, jumpHeld := false }
  | .resync, false => { t with tracking := .frozen, driveRise := none }
  | .frozen, true => { t with tracking := .resync, driveRise := some now }
  | _, _ => t

/-- HEAD_DRIVE_CHANGE (R123, R126). -/
def execHeadDriveChange (level : Level) (s : State) : Host.Outcome State Fault Refusal :=
  let s' : State := { s with pins := { s.pins with headDrive := level } }
  .next (
    if level = s.pins.headDrive then s'
    else s'.asHead fun c =>
      ({ s' with depth := s'.depth.driveChanged level s'.now } : State).judgeBottom c)

/-! ### HANDLER owner arrivals (R124 to R126) -/

/-- The resync (R126): mismatch beyond the tolerance, rebase, TRACKING. -/
def State.resynced (c : HeadConfig) (l : Nat) (s : State) : State :=
  let d := c.bitDepth l s.depth.count
  let s' := if c.resyncTolerance < ((d : Int) - s.depth.d).natAbs then s.depthMismatch else s
  { s' with depth := { s'.depth.rebased d with tracking := .tracking, driveRise := none, lastL := l } }

/-- A change of L in TRACKING: refused as a jump above 500 mm, otherwise taken (R124, R125). -/
def State.lengthChanged (c : HeadConfig) (l : Nat) (s : State) : State :=
  let d := c.bitDepth l s.depth.count
  if s.depth.d + 500 < d then
    let s' := s.depthMismatch
    { s' with depth := { s'.depth with jumpHeld := true } }
  else ({ s with depth := { s.depth with lastL := l } } : State).advanceTo d

/-- The instant from which an arrival can be the resync arrival (R126). -/
def Depth.resyncDue (t : Depth) (now : Nat) : Bool :=
  match t.driveRise with
  | some r => decide (r + Config.longestFrame ≤ now)
  | none => false

/-- A HANDLER owner arrival as the tracker reads it. -/
def State.depthHandlerArrival (c : HeadConfig) (a : HandlerAnnounce) (s : State) : State :=
  let l := a.length.toNat
  match s.depth.tracking with
  | .resync =>
    if s.depth.resyncDue s.now && !a.stringOpen then (s.resynced c l).judgeBottom c else s
  | .tracking =>
    if l ≠ s.depth.lastL ∧ !s.depth.jumpHeld then (s.lengthChanged c l).judgeBottom c else s
  | .unhomed | .frozen => s

/-! ### NEW_HOLE (R127) -/

/-- The HANDLER view is FRESH and shows an empty string. -/
def State.stringShownEmpty (s : State) : Bool :=
  match freshContent s.handlerView with
  | some a => a.entries == 0#8
  | none => false

/-- The hole depth, the advance depth and the ROP ring at 0 (R127). -/
def Depth.newHole (t : Depth) : Depth :=
  { t with
    dmax := 0, advance := 0, ring := Vector.replicate 30 0, ringPos := 0, filled := 0, prevDmax := 0 }

def newHoleRequest (s : State) : Answered :=
  if !s.stringShownEmpty then s.refused .stringNotEmpty
  else
    let s' := ({ s with depth := s.depth.newHole } : State).logNewHole s.depth.dmax
    (okWith [], s'.asHead fun c => s'.judgeBottom c)

/-- NEW_HOLE (R127, R140). -/
def execNewHole (s : State) : Host.Outcome State Fault Refusal :=
  answered .newHole (s.runningRequest .head newHoleRequest)

/-! ### Rotation and rate of penetration (R128, R129) -/

/-- ROTATION_PULSE (R128, R135). -/
def execRotationPulse (s : State) : Host.Outcome State Fault Refusal :=
  .next (s.asHead fun c =>
    (({ s with depth := { s.depth with rotation := some s.now } } : State).mapInterval fun iv =>
      { iv with revolutions := satAdd max32 iv.revolutions 1 }).judgeBottom c)

/-- One second has passed since the latest rotation pulse (R128). -/
def Depth.rotationOver (t : Depth) (now : Nat) : Bool :=
  match t.rotation with
  | some r => decide (r + Config.second ≤ now)
  | none => false

/-- ROTATION_WAIT_EXPIRY (R128): one second has passed since the latest pulse. A pulse taken before the row
starts the second anew, so that the bit stays on-bottom (log 4). -/
def execRotationWaitExpiry (s : State) : Host.Outcome State Fault Refusal :=
  .next (s.asHead fun c =>
    if s.depth.rotationOver s.now then
      ({ s with depth := { s.depth with rotation := none } } : State).judgeBottom c
    else s)

/-- The ring after a sample on bottom (R129). -/
def Depth.ropSample (t : Depth) : Depth :=
  if t.onBottom then
    { t with
      ring := put t.ring t.ringPos (t.dmax - t.prevDmax), ringPos := t.ringPos + 1
      filled := min 30 (t.filled + 1), prevDmax := t.dmax }
  else { t with prevDmax := t.dmax }

/-- ROP, in mm/min, rounded half up; 0 while no slot is filled (R129). -/
def Depth.rop (t : Depth) : Nat :=
  if t.filled = 0 then 0 else (t.ring.toList.sum * 60 + t.filled) / (2 * t.filled)

/-- ROP_SAMPLE_EXPIRY (R129). -/
def execRopSampleExpiry (s : State) : Host.Outcome State Fault Refusal :=
  .next (s.asHead fun _ =>
    { s with
      depth := s.depth.ropSample
      timers := { s.timers with rop := some (s.now + Config.twoSeconds) } })

/-- The tracker at RUNNING entry (R122, R129, R131). -/
def State.depthAtEntry (s : State) : State :=
  s.asHead fun c =>
    let s' : State := { s with depth := { s.depth with prevDmax := s.depth.dmax } }
    if s'.pins.home then s'.homed c else s'

end Sys2Proof.Machine
end

