-- ==== Sys2Proof/Machine/Rods.lean ====
section
/-! DEFINITION. Chapter 4, Rod Inventory: the requests that act on rack, string, transit position and tally
correction, and the carousel pulse (R52 to R67). -/

namespace Sys2Proof.Machine

/-- A cycle is active in the sense of R61: the sequencer is not IDLE, or a trip plan has cycles left. -/
def State.cycleActive (s : State) : Bool := s.seq.state != .idle || 0 < s.seq.plan.remaining

/-- A HANDLER request of chapter 4 or 5 that is taken in RUNNING only: R2, then BAD_STATE. -/
def State.handlerRequest (s : State) (request : State → Answered) : Answered :=
  s.runningRequest .handler request

/-- The same for the requests that R61 refuses with BUSY while a cycle is active. -/
def State.inventoryRequest (s : State) (request : State → Answered) : Answered :=
  s.handlerRequest fun s => if s.cycleActive then s.refused .busy else request s

/-- A new rod record (R52), or the place of the first offending field among ID, kind and length. -/
def State.newRod (s : State) (id : BitVec 16) (kind : Byte) (length count : BitVec 16) :
    Except Nat Rod :=
  if id = 0#16 then .error 1
  else
    match rodKindTable[kind.toNat]? with
    | none => .error 2
    | some k =>
      if length.toNat < 100 ∨ 9999 < length.toNat then .error 3
      else
        .ok { id := id.toNat, kind := k, length := length.toNat, makeups := count.toNat
              status := .serviceable, registeredAt := s.clock.time.map (·.day) }

/-! ### REGISTER_ROD, UNREGISTER_ROD, APPEND_STRING (R62 to R64) -/

def registerRodRequest (slot : Byte) (id : BitVec 16) (kind : Byte) (length count : BitVec 16)
    (s : State) : Answered :=
  match slotOf slot.toNat with
  | none => (badValue 1, s)
  | some i =>
    match s.newRod id kind length count with
    | .error n => (badValue (n + 1), s)
    | .ok rod =>
      if s.inventory.rack[i].isSome then s.refused .slotOccupied
      else if s.inventory.hasId rod.id then s.refused .duplicateId
      else
        let v := { s.inventory with rack := put s.inventory.rack i (some rod) }
        (okWith (be 1 i.val ++ be 2 rod.id ++ be 1 v.serviceableCount), { s with inventory := v })

/-- REGISTER_ROD (R62). -/
def execRegisterRod (slot : Byte) (id : BitVec 16) (kind : Byte) (length count : BitVec 16)
    (s : State) : Host.Outcome State Fault Refusal :=
  answered (.registerRod slot id kind length count)
    (s.inventoryRequest (registerRodRequest slot id kind length count))

def unregisterRodRequest (slot : Byte) (s : State) : Answered :=
  match slotOf slot.toNat with
  | none => (badValue 1, s)
  | some i =>
    match s.inventory.rack[i] with
    | none => s.refused .slotEmpty
    | some rod =>
      (okWith (rodField (some rod)),
       { s with inventory := { s.inventory with rack := put s.inventory.rack i none } })

/-- UNREGISTER_ROD (R63); the removed record is answered in its layout of R172 (log 16). -/
def execUnregisterRod (slot : Byte) (s : State) : Host.Outcome State Fault Refusal :=
  answered (.unregisterRod slot) (s.inventoryRequest (unregisterRodRequest slot))

def appendStringRequest (id : BitVec 16) (kind : Byte) (length count : BitVec 16) (s : State) :
    Answered :=
  match s.newRod id kind length count with
  | .error n => (badValue n, s)
  | .ok rod =>
    if Config.stringCapacity ≤ s.inventory.string.length then s.refused .stringFull
    else if s.inventory.hasId rod.id then s.refused .duplicateId
    else
      let v := { s.inventory with string := s.inventory.string ++ [rod] }
      (okWith (be 1 v.string.length ++ be 4 v.length), { s with inventory := v })

/-- APPEND_STRING (R64). -/
def execAppendString (id : BitVec 16) (kind : Byte) (length count : BitVec 16) (s : State) :
    Host.Outcome State Fault Refusal :=
  answered (.appendString id kind length count)
    (s.inventoryRequest (appendStringRequest id kind length count))

/-! ### SET_CAROUSEL and the carousel pulse (R55) -/

def setCarouselRequest (index : Byte) (s : State) : Answered :=
  match slotOf index.toNat with
  | none => (badValue 1, s)
  | some i => (okWith (be 1 i.val), { s with inventory := { s.inventory with carousel := i } })

/-- SET_CAROUSEL (R55). -/
def execSetCarousel (index : Byte) (s : State) : Host.Outcome State Fault Refusal :=
  answered (.setCarousel index) (s.inventoryRequest (setCarouselRequest index))

/-- CAROUSEL_PULSE (R55): counted in RUNNING while the HANDLER role is active, wrapping from 59 to 0. -/
def execCarouselPulse (s : State) : Host.Outcome State Fault Refusal :=
  .next (if s.acts .handler then
    { s with inventory := { s.inventory with carousel := s.inventory.carousel + 1 } } else s)

/-! ### CORRECT_TALLY, CLEAR_TALLY (R65) -/

def correctTallyRequest (offset : BitVec 16) (s : State) : Answered :=
  if offset.toInt < -500 ∨ 500 < offset.toInt then (badValue 1, s)
  else if s.inventory.string = [] then s.refused .stringEmpty
  else
    let v := { s.inventory with tally := offset.toInt, adjusted := true }
    (okWith (be 4 v.length), { s with inventory := v })

/-- CORRECT_TALLY (R65): taken while a cycle is active and while the rig is held. -/
def execCorrectTally (offset : BitVec 16) (s : State) : Host.Outcome State Fault Refusal :=
  answered (.correctTally offset) (s.handlerRequest (correctTallyRequest offset))

def clearTallyRequest (s : State) : Answered :=
  let v := { s.inventory with tally := 0, adjusted := false }
  (okWith (be 4 v.length), { s with inventory := v })

/-- CLEAR_TALLY (R65). -/
def execClearTally (s : State) : Host.Outcome State Fault Refusal :=
  answered .clearTally (s.handlerRequest clearTallyRequest)

/-! ### READ_RACK, READ_STRING (R67), in every node state -/

/-- The 543 bytes of the READ_RACK body (R172). -/
def rackBody (v : Inventory) : List Byte :=
  be 1 v.carousel.val ++ be 1 v.serviceableCount ++ be 1 v.emptyCount ++ v.rack.toList.flatMap rodField

/-- The 21 + 9n bytes of the READ_STRING body (R172). -/
def stringBody (v : Inventory) : List Byte :=
  be 1 v.string.length ++ be 4 v.sumOfLengths ++ beSigned 2 v.tally ++ flagByte v.adjusted ++
  be 4 v.length ++ rodField v.transit ++ v.string.flatMap (fun r => rodField (some r))

/-- READ_RACK (R67). -/
def execReadRack (s : State) : Host.Outcome State Fault Refusal :=
  answered .readRack (s.roleRequest .handler fun s => (okWith (rackBody s.inventory), s))

/-- READ_STRING (R67). -/
def execReadString (s : State) : Host.Outcome State Fault Refusal :=
  answered .readString (s.roleRequest .handler fun s => (okWith (stringBody s.inventory), s))

end Sys2Proof.Machine
end

