-- ==== Sys2Proof/Machine/Sequencer.lean ====
section
/-! DEFINITION. The handling sequencer's own operations (chapter 5): the cycle marker, entering and ending
steps, moves, completion, faults, starting cycles, RECOVER. `State.settle` ends every step whose condition
holds; every command that can change a condition ends with it (R70, R85). -/

namespace Sys2Proof.Machine

/-- The HANDLER group's step timeout in steps of 100 ms (R76). -/
def State.stepLoad (s : State) : Nat :=
  match s.node.handler with
  | some c => c.stepTimeout * 10
  | none => 0

/-- The HANDLER group's wear limit (R53). Without the group no count reaches it (log 32). -/
def State.wearLimit (s : State) : Nat :=
  match s.node.handler with
  | some c => c.wearLimit
  | none => 65536

/-- The marker rewritten as the sequencer and the transit position stand (R86). -/
def State.writeMarker (s : State) : State :=
  match s.seq.step, s.seq.slot with
  | some st, some i =>
    { s with seq := { s.seq with
        marker := some ⟨s.seq.kind, st, s.seq.state, i, s.inventory.transit.map (·.id)⟩ } }
  | _, _ => s

/-- A step entered: timer loaded afresh, the locked mark cleared at BREAK, the marker rewritten (R76, R84,
R86). -/
def State.enterStep (st : Step) (s : State) : State :=
  ({ s with seq := { s.seq with
      step := some st, timer := s.stepLoad
      lockedMark := if st = .breakJoint then false else s.seq.lockedMark } } : State).writeMarker

/-- The sequencer IDLE with kind NONE, fixed slot and marker cleared. -/
def Sequencer.toIdle (q : Sequencer) : Sequencer :=
  { q with state := .idle, kind := .none, step := none, slot := none, fault := none, marker := none }

/-- The cycle FAULTED: a running plan fault-paused, HANDLING_FAULT placed, STEP_TIMEOUT raised (R77). A plan
that is already hold-paused is not running (R82) and stays as it is (log 36). -/
def State.cycleFault (cause : FaultCause) (s : State) : State :=
  let p := s.seq.plan
  let pause := 0 < p.remaining && !p.holdPause
  let s' : State := { s with seq := { s.seq with
      state := .faulted, fault := some cause
      plan := { p with faultPause := p.faultPause || pause } } }
  (s'.writeMarker.raise .stepTimeout).placeReason .handlingFault

/-- The condition of the current step, on the levels as they stand (R70 to R72). -/
def State.stepCondition (s : State) : Bool :=
  match s.seq.step with
  | some .slips => s.pins.slipsSet
  | some .breakJoint => s.pins.jointFree && s.breakoutPermit
  | some .load | some .lift => s.pins.rodInLoader
  | some .joint => s.pins.jointMade
  | some .drive => s.pins.handlerDrive
  | some .store => s.pins.rodStored
  | some .release => !s.pins.slipsSet
  | none => false

/-- The move a step makes at its end (R71, R72). -/
def State.stepMove (s : State) (st : Step) : Except Status Inventory :=
  match st, s.seq.slot with
  | .load, some i => s.inventory.pick i
  | .joint, _ => s.inventory.join s.wearLimit
  | .lift, _ => s.inventory.lift
  | .store, some i => s.inventory.store i
  | _, _ => .ok s.inventory

/-- The step that follows in a cycle of the kind; none after RELEASE (R71, R72). -/
def nextStep (k : CycleKind) : Step → Option Step
  | .slips => some .breakJoint
  | .breakJoint => if k = .makeup then some .load else some .lift
  | .load => some .joint
  | .joint => some .drive
  | .lift => some .drive
  | .drive => if k = .makeup then some .release else some .store
  | .store => some .release
  | .release => none

/-- A cycle of a kind started on its start conditions (R74), without the BUSY and HELD checks and without
the entry check of SLIPS. -/
def State.startCycle (k : CycleKind) (s : State) : Except Status State :=
  let begun (i : RackSlot) : State :=
    ({ s with seq := { s.seq with state := .active, kind := k, slot := some i, fault := none } }
      : State).enterStep .slips
  match k with
  | .makeup =>
    match s.inventory.makeupSlot with
    | none => .error .rackEmpty
    | some i =>
      if s.inventory.string.length < Config.stringCapacity then .ok (begun i) else .error .stringFull
  | .breakout =>
    if s.inventory.string = [] then .error .stringEmpty
    else
      match s.inventory.storeSlot with
      | none => .error .rackFull
      | some i => .ok (begun i)
  | .none => .error .badState

/-- The trip plan ended: count 0 and both pause marks clear (R75, R79, R81, R83); it keeps its kind (log 47). -/
def TripPlan.ended (p : TripPlan) : TripPlan :=
  { p with remaining := 0, faultPause := false, holdPause := false }

/-- What a completed cycle does to a trip plan with cycles left: the count falls; at 0 the plan ends; a
plan that is hold-paused, or finds the rig held, is hold-paused; otherwise the next cycle starts, and a
refused start ends the plan with the refusal as its end cause (R75, R81, R82). -/
def State.planNext (s : State) : State :=
  let p := s.seq.plan
  if p.remaining = 0 then s
  else if p.remaining = 1 then { s with seq := { s.seq with plan := p.ended } }
  else
    let p' := { p with remaining := p.remaining - 1 }
    if p.holdPause || s.held then
      { s with seq := { s.seq with plan := { p' with holdPause := true } } }
    else
      match ({ s with seq := { s.seq with plan := p' } } : State).startCycle p.kind with
      | .ok s' => s'
      | .error code => { s with seq := { s.seq with plan := { p'.ended with endCause := some code } } }

/-- The cycle complete: counted, marker cleared, IDLE, then the trip plan (R75). -/
def State.completeCycle (s : State) : State :=
  let q := s.seq
  let counted : Sequencer := match q.kind with
    | .makeup => { q with makeups := satAdd max32 q.makeups 1 }
    | .breakout => { q with breakouts := satAdd max32 q.breakouts 1 }
    | .none => q
  ({ s with seq := counted.toIdle } : State).planNext

/-- The current step ends: its move is made and the next step entered, or the cycle completes; a refused
move faults the cycle (R70, R77). -/
def State.endStep (s : State) : State :=
  match s.seq.step with
  | none => s
  | some st =>
    match s.stepMove st with
    | .error code => s.cycleFault (.moveRefused code)
    | .ok v =>
      let s' : State := { s with inventory := v }
      match nextStep s.seq.kind st with
      | some st' => s'.enterStep st'
      | none => s'.completeCycle

/-- Steps ended in turn while their conditions hold, at most `n` of them. -/
def State.settleSteps : Nat → State → State
  | 0, s => s
  | n + 1, s =>
    if s.acts .handler && s.seq.state == .active && s.stepCondition then
      State.settleSteps n s.endStep
    else s

/-- The sequencer brought up to date with its inputs, the views and the hold set. A cycle has six steps and
no chain passes BREAK at its entry, so six are enough. -/
def State.settle (s : State) : State := s.settleSteps 6

/-- RECOVER from the cycle marker, with the RECOVERY reason placed (R87). -/
def State.enterRecover (s : State) : State :=
  match s.seq.marker with
  | none => s
  | some m =>
    ({ s with seq := { s.seq with
        state := .recover, kind := m.kind, step := some m.step, slot := some m.slot, fault := none } }
      : State).placeReason .recovery

end Sys2Proof.Machine
end

