-- ==== Sys2Proof/Machine/Holds.lean ====
section
/-! DEFINITION. Chapter 3, Rig Holds: HOLD, RELEASE_HOLD, CLEAR_HOLD and the silence of a holding station
(R43 to R48). The set itself and its edges are shared operations of Ops.lean. -/

namespace Sys2Proof.Machine

/-! A change of the hold set may let the sequencer go on, so a request that makes one settles it. -/

/-- The local reasons as an answer. -/
def reasonsReply (s : State) : Reply := okWith (reasonSetField s.holds.reasons)

def holdRequest (s : State) : Answered :=
  if s.running then
    let s' := s.placeReason .driller
    (reasonsReply s', s'.settle)
  else s.refused .badState

/-- HOLD (R43). -/
def execHold (s : State) : Host.Outcome State Fault Refusal := answered .hold (holdRequest s)

/-- The reasons that the sequencer removes itself while the HANDLER role is active (R44). -/
def sequencerReason (r : HoldReason) : Bool := r == .handlingFault || r == .recovery

def releaseHoldRequest (reason : Byte) (s : State) : Answered :=
  match holdReasonTable[reason.toNat]? with
  | none => (badValue 1, s)
  | some r =>
    if !s.holds.reasons.has r then s.refused .notHolding
    else if sequencerReason r && s.active .handler then s.refused .badState
    else
      let s' := s.removeReason r
      (reasonsReply s', s'.settle)

/-- RELEASE_HOLD (R44): taken in every node state. -/
def execReleaseHold (reason : Byte) (s : State) : Host.Outcome State Fault Refusal :=
  answered (.releaseHold reason) (releaseHoldRequest reason s)

def clearHoldRequest (station : Byte) (s : State) : Answered :=
  match stationOf station.toNat with
  | none => (badValue 1, s)
  | some st =>
    match s.holds.others[st] with
    | some e =>
      if e.state = .orphaned then (okWith [], (s.setEntry st none).settle) else s.refused .notOrphaned
    | none => s.refused .notOrphaned

/-- CLEAR_HOLD (R48): taken in every node state; no frame is sent. -/
def execClearHold (station : Byte) (s : State) : Host.Outcome State Fault Refusal :=
  answered (.clearHold station) (clearHoldRequest station s)

/-- HOLD_SILENCE_EXPIRY (R42, R47): a silence age that has reached 10,000 ms orphans the entry if the
station's presence slot is UNHEARD or LOST; an entry refreshed before the row is taken has not reached it
(log 4). -/
def execHoldSilenceExpiry (station : Station) (s : State) : Host.Outcome State Fault Refusal :=
  .next (
    match s.holds.others[station] with
    | some e =>
      if Config.lostAge ≤ e.silence ∧ !s.peers[station].presence.freshness.heard then s.orphan station else s
    | none => s)

end Sys2Proof.Machine
end

