-- ==== Sys2Proof/Machine/Meter.lean ====
section
/-! DEFINITION. Chapter 10, Job Metering: the job record, tariff windows, activity classes, charges of time,
footage, additives, wear and adjustments, and the summary and meter read-outs (R147 to R163). -/

namespace Sys2Proof.Machine

/-- An event taken by the acting CAB block with its configuration. -/
def State.asCab (s : State) (f : CabConfig → State) : State :=
  if s.acts .cab then
    match s.node.cab with
    | some c => f c
    | none => s
  else s

/-- The job record changed. -/
def State.mapJob (f : JobRecord → JobRecord) (s : State) : State :=
  { s with meter := { s.meter with job := f s.meter.job } }

/-! ### Places in the record (R147, R173) -/

/-- The seventeen accumulators that a charge goes to; the eighteenth is the job total. -/
abbrev Account := Fin 17

def classAccount (a : Activity) : Account := (activityIndex a).castLE (by decide)
def bandAccount (b : Fin 4) : Account := ⟨b.val + 7, by omega⟩
def additiveAccount (k : Fin 4) : Account := ⟨k.val + 11, by omega⟩
def wearAccount : Account := 15
def adjustmentAccount : Account := 16

/-- The place of the unclocked seconds among the quantities; the first sixteen places are the accounts'. -/
def unclockedPlace : Fin 17 := 16

/-! ### Charging (R160) -/

def JobRecord.total (j : JobRecord) : Accumulator := j.accumulators[17]

/-- An accumulator can take a charge: not marked, and within the limit afterwards. -/
def Accumulator.takes (a : Accumulator) (mills : Nat) : Bool :=
  !a.saturated && decide (a.mills + mills ≤ Config.accLimit)

def Accumulator.charged (a : Accumulator) (mills : Nat) : Accumulator := { a with mills := a.mills + mills }

/-- The mark of an accumulator that a refused charge would have taken past the limit. -/
def Accumulator.refused (a : Accumulator) (mills : Nat) : Accumulator :=
  { a with saturated := a.saturated || decide (Config.accLimit < a.mills + mills) }

/-- The two accumulators of a charge changed. -/
def JobRecord.mapCharge (j : JobRecord) (i : Account) (f : Accumulator → Accumulator) : JobRecord :=
  { j with
    accumulators := put (put j.accumulators i.castSucc (f j.accumulators[i.castSucc])) 17 (f j.total) }

/-- The charge of some mills to an account can be made. -/
def JobRecord.canCharge (j : JobRecord) (i : Account) (mills : Nat) : Bool :=
  j.accumulators[i.castSucc].takes mills && j.total.takes mills

/-- A charge of mills to an account and to the job total, with what goes with a charge that is made; a
refused one only marks, and raises ACCUM_SATURATED (R160). -/
def State.charge (i : Account) (mills : Nat) (made : JobRecord → JobRecord) (s : State) : State :=
  if s.meter.job.canCharge i mills then s.mapJob fun j => made (j.mapCharge i (·.charged mills))
  else (s.mapJob fun j => j.mapCharge i (·.refused mills)).raise .accumSaturated

/-- A quantity raised, staying at its limit (R160). -/
def JobRecord.count (j : JobRecord) (i : Fin 17) (n : Nat) : JobRecord :=
  { j with quantities := put j.quantities i (satAdd max32 j.quantities[i] n) }

/-! ### Tariff windows (R153) -/

/-- The number, from 1, and the tariff window in force at a minute of day. -/
def CabConfig.windowAt (c : CabConfig) (minute : Nat) : Option (Nat × TariffWindow) :=
  let numbered := c.windows.zipIdx 1 |>.map fun p => (p.2, p.1)
  match (numbered.filter fun p => decide (p.2.start ≤ minute)).getLast? with
  | some p => some p
  | none => numbered.getLast?

/-- The multiplier in force at a minute of day; 256 without windows. -/
def CabConfig.multiplierAt (c : CabConfig) (minute : Nat) : Nat :=
  match c.windowAt minute with
  | some p => p.2.multiplier
  | none => 256

/-! ### Activity class (R154) -/

/-- The LOST test is true for one of the MUD, HANDLER and HEAD views. -/
def State.someViewLost (s : State) : Bool :=
  lostTest s.mudView || lostTest s.handlerView || lostTest s.headView

/-- A view's last-heard content has a property. -/
def shows {α : Type} (view : Option (Slot α)) (p : α → Bool) : Bool := (lastHeard view).any p

/-- The number and the multiplier in force at a minute of day; number 0 while no window is configured (R153,
R173). -/
def CabConfig.inForce (c : CabConfig) (minute : Nat) : Nat × Nat :=
  (((c.windowAt minute).map (·.1)).getD 0, c.multiplierAt minute)

/-- The activity class from the hold set and the views as they stand: the first line that holds (R154). -/
def State.activityClass (s : State) : Activity :=
  if s.held then .held
  else if s.someViewLost then .down
  else if shows s.headView (·.onBottom) then .drilling
  else if shows s.handlerView (fun a => decide (0 < a.remaining.toNat)) then .tripping
  else if shows s.handlerView (fun a => a.kind != CycleKind.bits .none) then .connecting
  else if shows s.mudView (fun a =>
      a.circ == CircState.bits .priming || a.circ == CircState.bits .circulating) then .circulating
  else .standby

/-- The tariff of a node without the CAB group. -/
def noTariff : CabConfig :=
  ⟨Vector.replicate 7 0, Vector.replicate 4 0, Vector.replicate 4 0, 0, []⟩

/-- The activity class and the window in force taken, at a minute of day or with the clock unset (R154, R163).
-/
def State.takeClass (c : CabConfig) (minute : Option Nat) (s : State) : State :=
  { s with meter := { s.meter with activity := s.activityClass, window := minute.map c.inForce } }

/-! ### Time (R155, R161) -/

/-- The minute in which the elapsed second fell: the one shown before an advance at this instant (R155, log
29). -/
def State.secondMinute (s : State) (shown : Nat) : Nat :=
  match s.clock.lastMinute with
  | some (instant, minute) => if instant = s.now then minute else shown
  | none => shown

/-- The minute of day of a second step; none while the clock is unset (R155, R161). -/
def State.stepMinute (s : State) : Option Nat := s.clock.time.map fun t => s.secondMinute t.minute

/-- One second charged to a class at a minute of day (R155). -/
def State.chargeSecond (c : CabConfig) (a : Activity) (minute : Nat) (s : State) : State :=
  let k := activityIndex a
  let n := c.timeRates[k] * 1000 * c.multiplierAt minute + s.meter.job.timeResidues[k]
  s.charge (classAccount a) (n / 921600) fun j =>
    { j with timeResidues := put j.timeResidues k (n % 921600) }.count (classAccount a) 1

/-- One second with the clock unset (R161). -/
def JobRecord.unclocked (j : JobRecord) : JobRecord :=
  { j with flags := { j.flags with clockGap := true } }.count unclockedPlace 1

/-- A second step after its class is taken (R155, R161). -/
def State.elapsedSecond (c : CabConfig) (s : State) : State :=
  if s.meter.job.state = .opened then
    match s.stepMinute with
    | some minute => s.chargeSecond c s.meter.activity minute
    | none => s.mapJob JobRecord.unclocked
  else s

/-- SECOND_STEP (R154, R155, R161, R163). -/
def execSecondStep (s : State) : Host.Outcome State Fault Refusal :=
  .next (s.asCab fun c =>
    let s' := (s.takeClass c s.stepMinute).elapsedSecond c
    { s' with
      timers := { s'.timers with second := some (s'.now + Config.second) }
      clock := { s'.clock with lastMinute := none } })

/-! ### Counters of other roles (R156 to R158) -/

/-- A counter's last seen value replaced. -/
def JobRecord.seen (j : JobRecord) (n : Fin 9) (value : Nat) : JobRecord :=
  { j with baselines := put j.baselines n (some value) }

/-- One counter of an arrival against its baseline (R156). `charge` charges an increase; `standing` says that
an increase is not read for now (R161); `gap` sets the source's gap flag. -/
def State.readCounter (n : Fin 9) (value : Nat) (standing : Bool) (gap : JobFlags → JobFlags)
    (charge : Nat → State → State) (s : State) : State :=
  match s.meter.job.state with
  | .suspended => s.mapJob (·.seen n value)
  | .opened =>
    match s.meter.job.baselines[n] with
    | none => s.mapJob (·.seen n value)
    | some last =>
      if value < last then s.mapJob fun j => { j with flags := gap j.flags }.seen n value
      else if value = last ∨ standing then s
      else (charge (value - last) s).mapJob (·.seen n value)
  | .noJob | .closed => s

/-- An increase of footage in a band at a minute of day (R157). -/
def State.chargeFootage (c : CabConfig) (b : Fin 4) (minute growth : Nat) (s : State) : State :=
  let n := growth * c.bandRates[b] * c.multiplierAt minute + s.meter.job.bandResidues[b]
  s.charge (bandAccount b) (n / 256) fun j =>
    { j with bandResidues := put j.bandResidues b (n % 256) }.count (bandAccount b) growth

/-- An increase of additive units (R158). -/
def State.chargeAdditive (c : CabConfig) (k : Fin 4) (growth : Nat) (s : State) : State :=
  s.charge (additiveAccount k) (growth * c.additivePrices[k] * 1000) (·.count (additiveAccount k) growth)

/-- An increase of make-ups (R158). -/
def State.chargeWear (c : CabConfig) (growth : Nat) (s : State) : State :=
  s.charge wearAccount (growth * c.wearPrice * 1000) (·.count wearAccount growth)

/-- One footage counter of a HEAD arrival; with the clock unset an increase stands over (R161). -/
def State.readFootage (c : CabConfig) (b : Fin 4) (value : Nat) (s : State) : State :=
  s.readCounter (b.castLE (by decide)) value s.clock.time.isNone
    (fun f => { f with footageGap := true })
    (fun growth s => match s.clock.time with
      | some t => s.chargeFootage c b t.minute growth
      | none => s)

def State.readAdditive (c : CabConfig) (k : Fin 4) (value : Nat) (s : State) : State :=
  s.readCounter ⟨k.val + 4, by omega⟩ value false (fun f => { f with mudGap := true })
    (State.chargeAdditive c k)

def fourIndexes : List (Fin 4) := [0, 1, 2, 3]

/-- A HEAD owner arrival at the meter (R156, R157), its counters in the order of R156's table (log 39). -/
def State.meterHead (a : HeadAnnounce) (s : State) : State :=
  s.asCab fun c => fourIndexes.foldl (fun s b => s.readFootage c b a.footage[b].toNat) s

/-- A MUD owner arrival at the meter (R156, R158), its counters in the order of R156's table (log 39). -/
def State.meterMud (a : MudAnnounce) (s : State) : State :=
  s.asCab fun c => fourIndexes.foldl (fun s k => s.readAdditive c k a.additives[k].toNat) s

/-- A HANDLER owner arrival at the meter (R156, R158). -/
def State.meterHandler (a : HandlerAnnounce) (s : State) : State :=
  s.asCab fun c => s.readCounter 8 a.makeups.toNat false (fun f => { f with handlerGap := true })
    (State.chargeWear c)

/-! ### OPEN_JOB, SUSPEND_JOB, RESUME_JOB, CLOSE_JOB (R148 to R150) -/

/-- The content of a view that is FRESH or STALE (R148). -/
def heardContent {α : Type} (view : Option (Slot α)) : Option α :=
  match view with
  | some k => if k.freshness.heard then k.content else none
  | none => none

/-- The nine baselines as OPEN_JOB takes them from the owner views (R148). -/
def State.freshBaselines (s : State) : Vector (Option Nat) 9 :=
  let head := heardContent s.headView
  let mud := heardContent s.mudView
  #v[head.map (·.footage[0].toNat), head.map (·.footage[1].toNat), head.map (·.footage[2].toNat),
     head.map (·.footage[3].toNat), mud.map (·.additives[0].toNat), mud.map (·.additives[1].toNat),
     mud.map (·.additives[2].toNat), mud.map (·.additives[3].toNat),
     (heardContent s.handlerView).map (·.makeups.toNat)]

/-- The record made ready for a new job (R148). -/
def State.openedJob (s : State) (number : Nat) : JobRecord :=
  { JobRecord.initial with
    number := some number, state := .opened, openTime := s.timeStamp, baselines := s.freshBaselines }

def openJobRequest (number : BitVec 16) (s : State) : Answered :=
  let j := s.meter.job
  if number = 0#16 then (badValue 1, s)
  else if j.state = .opened ∨ j.state = .suspended then s.refused .badState
  else if j.state = .closed ∧ !j.summaryRead then s.refused .summaryUnread
  else
    let s' := s.mapJob fun _ => s.openedJob number.toNat
    (okWith (be 2 number.toNat ++ be 1 (s.freshBaselines.toList.countP Option.isNone)), s')

/-- OPEN_JOB (R148). -/
def execOpenJob (number : BitVec 16) (s : State) : Host.Outcome State Fault Refusal :=
  answered (.openJob number) (s.runningRequest .cab (openJobRequest number))

/-- A change of job state that one state alone allows (R149). -/
def jobStateRequest (from_ to_ : JobState) (s : State) : Answered :=
  if s.meter.job.state = from_ then (okWith [], s.mapJob fun j => { j with state := to_ })
  else s.refused .badState

/-- SUSPEND_JOB (R149). -/
def execSuspendJob (s : State) : Host.Outcome State Fault Refusal :=
  answered .suspendJob (s.runningRequest .cab (jobStateRequest .opened .suspended))

/-- RESUME_JOB (R149). -/
def execResumeJob (s : State) : Host.Outcome State Fault Refusal :=
  answered .resumeJob (s.runningRequest .cab (jobStateRequest .suspended .opened))

def closeJobRequest (s : State) : Answered :=
  if s.meter.job.state = .opened ∨ s.meter.job.state = .suspended then
    (okWith (be 6 s.meter.job.total.mills),
     s.mapJob fun j => { j with state := .closed, closeTime := s.timeStamp })
  else s.refused .badState

/-- CLOSE_JOB (R150). -/
def execCloseJob (s : State) : Host.Outcome State Fault Refusal :=
  answered .closeJob (s.runningRequest .cab closeJobRequest)

/-! ### ADD_CHARGE (R159) -/

def addChargeRequest (amount : BitVec 32) (s : State) : Answered :=
  let mills := amount.toNat * 1000
  if amount.toNat = 0 ∨ 1000000 < amount.toNat then (badValue 1, s)
  else if s.meter.job.state ≠ .opened then s.refused .badState
  else
    let s' := s.charge adjustmentAccount mills id
    if s.meter.job.canCharge adjustmentAccount mills then
      (okWith (be 6 s'.meter.job.accumulators[adjustmentAccount.castSucc].mills), s')
    else (refuse .accumSaturated, s')

/-- ADD_CHARGE (R159). -/
def execAddCharge (amount : BitVec 32) (s : State) : Host.Outcome State Fault Refusal :=
  answered (.addCharge amount) (s.runningRequest .cab (addChargeRequest amount))

/-! ### Read-outs (R151, R173) -/

def accumulatorField (a : Accumulator) : List Byte := be 6 (a.saturated.toNat * 2 ^ 47 + a.mills)

def jobFlagsByte (f : JobFlags) : Nat :=
  f.footageGap.toNat + f.mudGap.toNat * 2 + f.handlerGap.toNat * 4 + f.clockGap.toNat * 8

/-- The 187 bytes of the FETCH_SUMMARY body (R173). -/
def summaryBody (j : JobRecord) : List Byte :=
  be 2 (j.number.getD 0) ++ timeField j.openTime ++ timeField j.closeTime ++
  j.accumulators.toList.flatMap accumulatorField ++ j.quantities.toList.flatMap (be 4) ++
  be 1 (jobFlagsByte j.flags)

def fetchSummaryRequest (s : State) : Answered :=
  if s.meter.job.state ≠ .closed then s.refused .badState
  else (okWith (summaryBody s.meter.job), s.mapJob fun j => { j with summaryRead := true })

/-- FETCH_SUMMARY (R151): taken in every node state. -/
def execFetchSummary (s : State) : Host.Outcome State Fault Refusal :=
  answered .fetchSummary (s.roleRequest .cab fetchSummaryRequest)

/-- A last seen value; the one shown while a baseline is pending is free (log 13). -/
def baselineField (b : Option Nat × Nat) : List Byte :=
  match b.1 with
  | some v => be 4 v
  | none => be 4 (Config.pendingBaseline b.2).toNat

/-- Bit n set where the nth baseline is pending (R173), the first counted as 0 (log 48). -/
def pendingMask (bs : List (Option Nat)) : Nat :=
  bs.foldr (fun b acc => acc * 2 + b.isNone.toNat) 0

/-- The window in force as last taken, its number and multiplier; 0xFF and 0 where none is (R163, R173), also where
no window is configured (log 11). -/
def windowField : Option (Nat × Nat) → List Byte
  | none => be 1 0xFF ++ be 2 0
  | some w => be 1 w.1 ++ be 2 w.2

/-- The 264 bytes of the READ_METERS body (R173). -/
def State.metersBody (s : State) : List Byte :=
  let j := s.meter.job
  summaryBody j ++ codeByte jobStateTable j.state ++ flagByte j.summaryRead ++
  j.timeResidues.toList.flatMap (be 4) ++ j.bandResidues.toList.flatMap (be 1) ++
  j.baselines.toList.zipIdx.flatMap baselineField ++ be 2 (pendingMask j.baselines.toList) ++
  codeByte activityTable s.meter.activity ++ windowField s.meter.window ++ flagByte s.clock.time.isSome

/-- READ_METERS (R151): taken in every node state. -/
def execReadMeters (s : State) : Host.Outcome State Fault Refusal :=
  answered .readMeters (s.roleRequest .cab fun s => (okWith s.metersBody, s))

end Sys2Proof.Machine
end

