-- ==== Sys2Proof/Machine/Arrivals.lean ====
section
/-! DEFINITION. Chapter 1, Roles and Peer Views, as far as frames and ages reach it: storing a frame, yields,
the readers an arrival is handed to, slots going STALE and LOST, READ_PEER (R4 to R14). -/

namespace Sys2Proof.Machine

/-! ### The table (R4, R8) -/

/-- What follows when the map changes its MUD owner: the locked mark is cleared (R84), and the log keeps no
MUD condition (R135). -/
def State.mudOwnerChanged (s : State) : State :=
  { s with
    seq := if s.acts .handler then { s.seq with lockedMark := false } else s.seq
    log := if s.acts .head then { s.log with kept := none } else s.log }

/-- The peer view table replaced. -/
def State.withPeers (peers : Vector PeerEntry 8) (s : State) : State :=
  let s' : State := { s with peers := peers }
  if s'.owner .mud = s.owner .mud then s' else s'.mudOwnerChanged

/-- One station's entry changed. -/
def State.mapPeer (st : Station) (f : PeerEntry → PeerEntry) (s : State) : State :=
  s.withPeers (put s.peers st (f s.peers[st]))

/-! ### Yielding (R12 to R14) -/

/-- A role's announcement no longer due. -/
def Due.drop (d : Due) : Role → Due
  | .mud => { d with mud := false }
  | .handler => { d with handler := false }
  | .head => { d with head := false }
  | .cab => { d with cab := false }

/-- The verify scan after a yield: one in flight is abandoned, an ended one stays as it stands (R13, R144). -/
def Scan.abandoned (k : Scan) : Scan := if k.state = .inFlight then .none else k

/-- What a yield does to the role's work in flight (R14, R87, R144, R146). -/
def State.stopWork (r : Role) (s : State) : State :=
  match r with
  | .mud => { s with timers := { s.timers with balance := none } }
  | .handler => if s.running then s.enterRecover else s
  | .head =>
    { s with
      timers := { s.timers with rop := none, scan := none }
      log := { s.log with scan := s.log.scan.abandoned, onBottom := false } }
  | .cab => { s with timers := { s.timers with second := none } }

/-- An active role yielded (R13). -/
def State.yieldRole (r : Role) (s : State) : State :=
  if s.active r then
    (({ s with
        node := { s.node with yielded := s.node.yielded.insert r }
        link := { s.link with due := s.link.due.drop r } } : State).raise .roleYielded).stopWork r
  else s

/-- The claimed roles yielded. -/
def State.yieldRoles (claimed : Role → Bool) (s : State) : State :=
  roleTable.foldl (fun s r => if claimed r then s.yieldRole r else s) s

/-- The station is lower than the node's own, in LISTEN or RUNNING (R12). -/
def State.mustYieldTo (s : State) (st : Station) : Bool :=
  s.node.state != .config && s.station.any (st < ·)

/-- The yield decision of START: a lower station claims the role (R12). -/
def State.claimedBelow (s : State) (r : Role) : Bool :=
  stations.any fun st => s.mustYieldTo st && s.peers[st].claims r

/-! ### Readers (section 1.4) -/

/-- A MUD owner arrival at the handling sequencer: the locked mark, in BREAK only (R84). -/
def State.sequencerMudArrival (a : MudAnnounce) (s : State) : State :=
  if s.acts .handler && s.seq.state == .active && s.seq.step == some .breakJoint then
    { s with seq := { s.seq with lockedMark := a.circ == CircState.bits .locked } }
  else s

/-- An owner arrival handed to its readers, each of which takes it while its block acts (section 1.4). -/
def State.readArrival (s : State) : Announcement → State
  | .mud a =>
    let s1 := s.sequencerMudArrival a
    (if s1.acts .head then s1.logMudArrival a.condition else s1).meterMud a
  | .handler a =>
    let s1 : State := if s.acts .mud then { s with circ := s.circ.heardHandler a.stringOpen } else s
    (s1.asHead fun c => s1.depthHandlerArrival c a).meterHandler a
  | .head a => s.meterHead a
  | .cab _ => s

def announcedRole : Announcement → Role
  | .mud _ => .mud
  | .handler _ => .handler
  | .head _ => .head
  | .cab _ => .cab

/-- An announcement stored and handed on: the yield decision first, then the readers, if the map names the
station as the role's owner, then the sequencer (R4, R12, log 23). -/
def State.announcementArrival (st : Station) (a : Announcement) (s : State) : State :=
  let s1 := s.mapPeer st (·.storeAnnouncement a)
  let claims := fun r => r == announcedRole a && !s1.peers[st].yieldsRole r
  let s2 := if s1.mustYieldTo st then s1.yieldRoles claims else s1
  (if s2.owner (announcedRole a) = some st then s2.readArrival a else s2).settle

/-- A PRESENCE stored and handed on; the hold set reads those of other stations (R4, R12, R46). -/
def State.presenceArrival (st : Station) (p : Presence) (s : State) : State :=
  let s1 := s.mapPeer st (·.storePresence p)
  let s2 := if s1.mustYieldTo st then s1.yieldRoles fun r => p.held.has r && !p.yielded.has r else s1
  (if s2.station = some st then s2 else s2.holdReport st (p.holding.map HoldReason.bits)).settle

/-! ### Ages (R5, R6) -/

/-- SLOT_STALE (R5): a FRESH slot whose age has reached 1,500 ms; a slot stored afresh before the row is taken
has not reached it (log 4). -/
def execSlotStale (station : Station) (slot : SlotName) (s : State) : Host.Outcome State Fault Refusal :=
  let e := s.peers[station]
  .next (if e.freshness slot = .fresh ∧ Config.staleAge ≤ e.age slot then
    s.mapPeer station (·.marked slot .stale (e.age slot))
  else s)

/-- The map names the station as owner of the role that the slot announces. -/
def State.ownerSlot (s : State) (st : Station) : SlotName → Bool
  | .presence => true
  | .announce r => s.owner r == some st

/-- SLOT_LOST (R5, R6, R47): a STALE slot whose age has reached 10,000 ms (log 4). PEER_LOST for another
station's presence slot or for its slot of a role it owned just before; the loss of a presence slot orphans
the station's hold entry. In CONFIG the entry under this node's own configured number is not orphaned here
(log 35). -/
def execSlotLost (station : Station) (slot : SlotName) (s : State) : Host.Outcome State Fault Refusal :=
  let e := s.peers[station]
  .next (if e.freshness slot = .stale ∧ Config.lostAge ≤ e.age slot then
    let s1 := s.mapPeer station (·.marked slot .lost Config.lostAge)
    if s.station = some station then s1.settle
    else
      let s2 := s1.raiseIf (s.ownerSlot station slot) .peerLost
      (if slot = .presence then s2.orphan station else s2).settle
  else s)

/-! ### READ_PEER (R11, R173) -/

/-- One slot of an entry: freshness, age, and the content while it is not UNHEARD. -/
def slotField {α : Type} (f : α → List Byte) (k : Slot α) : List Byte :=
  codeByte freshnessTable k.freshness ++ be 2 k.age ++
  (match k.content with
    | some a => if k.freshness = .unheard then [] else f a
    | none => [])

/-- The READ_PEER body (R173). -/
def State.peerBody (s : State) (st : Station) : List Byte :=
  let e := s.peers[st]
  slotField presencePayload e.presence ++ slotField mudPayload e.mud ++
  slotField handlerPayload e.handler ++ slotField headPayload e.head ++ slotField cabPayload e.cab ++
  roleTable.flatMap fun r => stationField (s.owner r)

def readPeerRequest (station : Byte) (s : State) : Answered :=
  match stationOf station.toNat with
  | none => (badValue 1, s)
  | some st => (okWith (s.peerBody st), s)

/-- READ_PEER (R11): taken in every node state. -/
def execReadPeer (station : Byte) (s : State) : Host.Outcome State Fault Refusal :=
  answered (.readPeer station) (readPeerRequest station s)

end Sys2Proof.Machine
end

