-- ==== Sys2Proof/Machine/Handling.lean ====
section
/-! DEFINITION. Chapter 5, Handling Cycles: the requests of the handling sequencer, its input changes and
the expiry of its step timer (R69 to R88, and RESUME of R51). -/

namespace Sys2Proof.Machine

/-! ### MAKEUP and BREAKOUT (R74) -/

/-- The rod that a cycle started now concerns: the rod of its fixed slot, or the top rod (R74). -/
def State.concernedRod (s : State) : CycleKind → RackSlot → Nat
  | .makeup, i => ((s.inventory.rack[i]).map (·.id)).getD 0
  | _, _ => (s.inventory.topRod.map (·.id)).getD 0

def cycleRequest (k : CycleKind) (s : State) : Answered :=
  if s.cycleActive then s.refused .busy
  else if s.held then s.refused .held
  else
    match s.startCycle k with
    | .error code => s.refused code
    | .ok s' =>
      let slot := match s'.seq.slot with
        | some i => i
        | none => 0
      (okWith (codeByte cycleKindTable k ++ be 1 slot.val ++ be 2 (s.concernedRod k slot)), s'.settle)

/-- MAKEUP (R74). -/
def execMakeup (s : State) : Host.Outcome State Fault Refusal :=
  answered .makeup (s.handlerRequest (cycleRequest .makeup))

/-- BREAKOUT (R74). -/
def execBreakout (s : State) : Host.Outcome State Fault Refusal :=
  answered .breakout (s.handlerRequest (cycleRequest .breakout))

/-! ### Trip plans (R81 to R83, R51) -/

/-- The count a trip is clamped to (R81). -/
def Inventory.clampTrip (v : Inventory) (k : CycleKind) (n : Nat) : Nat :=
  match k with
  | .makeup => min n (min v.serviceableCount (Config.stringCapacity - v.string.length))
  | _ => min n (min v.emptyCount v.string.length)

/-- The refusal of a trip clamped to 0 (R81). -/
def Inventory.tripRefusal (v : Inventory) (k : CycleKind) : Status :=
  match k with
  | .makeup => if v.serviceableCount = 0 then .rackEmpty else .stringFull
  | _ => if v.string = [] then .stringEmpty else .rackFull

def tripRequest (k : CycleKind) (count : Byte) (s : State) : Answered :=
  if s.cycleActive then s.refused .busy
  else if s.held then s.refused .held
  else if count.toNat = 0 ∨ 160 < count.toNat then (badValue 1, s)
  else
    let c := s.inventory.clampTrip k count.toNat
    if c = 0 then s.refused (s.inventory.tripRefusal k)
    else
      match ({ s with seq := { s.seq with plan := ⟨k, c, false, false, none⟩ } } : State).startCycle k with
      | .error code => s.refused code
      | .ok s' => (okWith (be 1 c), s'.settle)

/-- TRIP_IN (R81). -/
def execTripIn (count : Byte) (s : State) : Host.Outcome State Fault Refusal :=
  answered (.tripIn count) (s.handlerRequest (tripRequest .makeup count))

/-- TRIP_OUT (R81). -/
def execTripOut (count : Byte) (s : State) : Host.Outcome State Fault Refusal :=
  answered (.tripOut count) (s.handlerRequest (tripRequest .breakout count))

def stopTripRequest (s : State) : Answered :=
  (okWith (be 1 s.seq.plan.remaining), { s with seq := { s.seq with plan := s.seq.plan.ended } })

/-- STOP_TRIP (R83): never refused for a hold or a cycle. -/
def execStopTrip (s : State) : Host.Outcome State Fault Refusal :=
  answered .stopTrip (s.handlerRequest stopTripRequest)

def resumeRequest (s : State) : Answered :=
  if s.held then s.refused .held
  else if !s.seq.plan.holdPause then s.refused .badState
  else
    let s' : State := { s with seq := { s.seq with plan := { s.seq.plan with holdPause := false } } }
    let reply := okWith (be 1 s.seq.plan.remaining)
    if s.seq.state = .idle then
      match s'.startCycle s.seq.plan.kind with
      | .error code => s.refused code
      | .ok s'' => (reply, s''.settle)
    else (reply, s')

/-- RESUME (R51): a refused start leaves the plan paused. -/
def execResume (s : State) : Host.Outcome State Fault Refusal :=
  answered .resume (s.handlerRequest resumeRequest)

/-! ### RETRY_STEP and ABORT (R78, R79) -/

/-- The plan after RETRY_STEP: a fault-pause is cleared, with a hold-pause in its place if the rig is still
held (R78). -/
def TripPlan.retried (p : TripPlan) (held : Bool) : TripPlan :=
  if p.faultPause then { p with faultPause := false, holdPause := p.holdPause || held } else p

def retryStepRequest (s : State) : Answered :=
  match s.seq.state, s.seq.step with
  | .faulted, some st =>
    let s1 := s.removeReason .handlingFault
    let s2 : State := { s1 with seq := { s1.seq with
        state := .active, fault := none, plan := s1.seq.plan.retried s1.held } }
    let s3 := (s2.enterStep st).settle
    (okWith (codeByte stepTable s3.seq.step), s3)
  | _, _ => s.refused .badState

/-- RETRY_STEP (R78). -/
def execRetryStep (s : State) : Host.Outcome State Fault Refusal :=
  answered .retryStep (s.handlerRequest retryStepRequest)

def abortRequest (s : State) : Answered :=
  if s.seq.state != .active && s.seq.state != .faulted then s.refused .badState
  else
    let s1 := if s.seq.state = .faulted then s.removeReason .handlingFault else s
    let q := { s1.seq with plan := s1.seq.plan.ended, fault := none }
    let s2 : State := if s1.inventory.transit.isNone then { s1 with seq := q.toIdle }
      else ({ s1 with seq := { q with state := .transitHeld } } : State).writeMarker
    (okWith (codeByte seqStateTable s2.seq.state ++ be 1 s.seq.plan.remaining), s2)

/-- ABORT (R79). -/
def execAbort (s : State) : Host.Outcome State Fault Refusal :=
  answered .abort (s.handlerRequest abortRequest)

/-! ### RESOLVE_TRANSIT and CONFIRM_RECOVERY (R80, R88) -/

/-- TRANSIT_HELD, or RECOVER with a rod in the transit position (R80). -/
def State.mayResolve (s : State) : Bool :=
  s.seq.state == .transitHeld || (s.seq.state == .recover && s.inventory.transit.isSome)

/-- The sequencer after the PLACE move: IDLE, or still RECOVER with the marker's rod cleared (R80). -/
def State.placed (v : Inventory) (s : State) : State :=
  { s with
    inventory := v
    seq := if s.seq.state = .recover then
        { s.seq with marker := s.seq.marker.map fun m => { m with rod := none } }
      else s.seq.toIdle }

/-- The answer of RESOLVE_TRANSIT: destination, the slot if any, the new L. -/
def placeReply (destination : Nat) (slot : Option RackSlot) (v : Inventory) : Reply :=
  okWith (be 1 destination ++ optionalField (fun i : RackSlot => be 1 i.val) slot ++ be 4 v.length)

def resolveTransitRequest (destination slot : Byte) (s : State) : Answered :=
  if !s.mayResolve then s.refused .badState
  else
    match destination.toNat with
    | 0 =>
      match slotOf slot.toNat with
      | none => (badValue 2, s)
      | some i =>
        match s.inventory.store i with
        | .error code => s.refused code
        | .ok v => (placeReply 0 (some i) v, s.placed v)
    | 1 =>
      match s.inventory.placeTop with
      | .error code => s.refused code
      | .ok v => (placeReply 1 none v, s.placed v)
    | _ => (badValue 1, s)

/-- RESOLVE_TRANSIT (R80): the slot is ignored for STRING_TOP (section 11.4). -/
def execResolveTransit (destination slot : Byte) (s : State) : Host.Outcome State Fault Refusal :=
  answered (.resolveTransit destination slot) (s.handlerRequest (resolveTransitRequest destination slot))

def confirmRecoveryRequest (s : State) : Answered :=
  if s.seq.state != .recover then s.refused .badState
  else if s.inventory.transit.isSome then s.refused .transitOccupied
  else (okWith [], ({ s with seq := s.seq.toIdle } : State).removeReason .recovery)

/-- CONFIRM_RECOVERY (R88). -/
def execConfirmRecovery (s : State) : Host.Outcome State Fault Refusal :=
  answered .confirmRecovery (s.handlerRequest confirmRecoveryRequest)

/-! ### Input changes and the step timer (R70, R76) -/

def Pins.setHandler (p : Pins) (i : HandlerInput) (l : Level) : Pins :=
  match i with
  | .slipsSet => { p with slipsSet := l }
  | .jointFree => { p with jointFree := l }
  | .rodInLoader => { p with rodInLoader := l }
  | .jointMade => { p with jointMade := l }
  | .driveConnected => { p with handlerDrive := l }
  | .rodStored => { p with rodStored := l }

/-- HANDLER_INPUT_CHANGE (R70): the line has its level in every state; steps end only while the sequencer
is ACTIVE in an acting HANDLER block. -/
def execHandlerInputChange (input : HandlerInput) (level : Level) (s : State) :
    Host.Outcome State Fault Refusal :=
  .next ({ s with pins := s.pins.setHandler input level } : State).settle

/-- STEP_TIMER_EXPIRY (R76, R77): the last step of a running timer's time. A timer that stands, or has been
loaded afresh before the row is taken, does not expire (log 4). -/
def execStepTimerExpiry (s : State) : Host.Outcome State Fault Refusal :=
  .next (if s.stepTimerRuns ∧ s.seq.timer ≤ 1 then
    ({ s with seq := { s.seq with timer := 0 } } : State).cycleFault .timeout else s)

end Sys2Proof.Machine
end

