-- ==== Sys2Proof/Machine/Announce.lean ====
section
/-! DEFINITION. What the node sends (R36): the announcement records of the four job blocks and PRESENCE, as
they stand at the moment a start bit is begun. -/

namespace Sys2Proof.Machine

/-- The MUD announcement record. -/
def State.mudRecord (s : State) : MudAnnounce :=
  { circ := s.circ.state.bits
    condition := s.bal.announced
    returnsAbsent := s.circ.returnsAbsent
    pump1 := s.circ.pump1.state.bits
    pump2 := s.circ.pump2.state.bits
    flowIn := BitVec.ofNat 32 s.circ.flowIn
    pressure := BitVec.ofNat 16 s.circ.pressure
    balance := BitVec.ofInt 24 (litres s.bal.sum)
    gain := BitVec.ofNat 32 (s.bal.gainTotal / 10)
    loss := BitVec.ofNat 32 (s.bal.lossTotal / 10)
    running1 := BitVec.ofNat 32 s.circ.pump1.seconds
    running2 := BitVec.ofNat 32 s.circ.pump2.seconds
    additives := s.circ.additives.map (BitVec.ofNat 32)
    epoch := s.node.epoch
    result := s.directives.mud }

/-- The HANDLER announcement record; its top rod ID is 0 while the string is empty. -/
def State.handlerRecord (s : State) : HandlerAnnounce :=
  { kind := s.seq.kind.bits
    stringOpen := s.seq.stringOpen
    permit := s.breakoutPermit
    step := stepBits s.seq.step
    length := BitVec.ofNat 24 s.inventory.length
    entries := BitVec.ofNat 8 s.inventory.string.length
    topRod := BitVec.ofNat 16 ((s.inventory.topRod.map (·.id)).getD 0)
    remaining := BitVec.ofNat 8 s.seq.plan.remaining
    makeups := BitVec.ofNat 32 s.seq.makeups
    breakouts := BitVec.ofNat 32 s.seq.breakouts
    epoch := s.node.epoch
    result := s.directives.handler }

/-- The HEAD announcement record. -/
def State.headRecord (s : State) : HeadAnnounce :=
  { d := BitVec.ofNat 32 s.depth.d
    dmax := BitVec.ofNat 32 s.depth.dmax
    tracking := s.depth.tracking
    onBottom := s.depth.onBottom
    lithology := s.log.current.lithology
    rop := BitVec.ofNat 32 s.depth.rop
    sequence := BitVec.ofNat 32 s.log.current.sequence
    footage := s.depth.footage.map (BitVec.ofNat 32)
    epoch := s.node.epoch
    result := s.directives.head }

/-- The CAB announcement record; its job number is 0 in NO_JOB (R147). -/
def State.cabRecord (s : State) : CabAnnounce :=
  { jobState := s.meter.job.state
    activity := s.meter.activity.bits
    jobNumber := BitVec.ofNat 16 (s.meter.job.number.getD 0)
    epoch := s.node.epoch }

/-- PRESENCE: holding flag and reason from the local reasons (R43, R44). -/
def State.presenceRecord (s : State) : Presence :=
  { held := s.rolesHeld
    yielded := s.node.yielded
    running := s.running
    holding := s.holds.reasons.first
    epoch := s.node.epoch }

def State.record (s : State) : Role → Announcement
  | .mud => .mud s.mudRecord
  | .handler => .handler s.handlerRecord
  | .head => .head s.headRecord
  | .cab => .cab s.cabRecord

/-! ### The choice of a frame (R36) -/

/-- The due flag of a role's announcement. -/
def Due.has (d : Due) : Role → Bool
  | .mud => d.mud
  | .handler => d.handler
  | .head => d.head
  | .cab => d.cab

/-- The hold frame with the reason as it stands (R37). -/
def State.holdContent (s : State) : HoldFrame → Frame
  | .set =>
    match s.holds.reasons.first with
    | some r => .holdSet r.bits
    | none => .holdRelease
  | .release => .holdRelease

/-- The first due announcement, in the role order MUD, HANDLER, HEAD, CAB; else PRESENCE if due. -/
def State.dueFrame (s : State) : Option Frame :=
  match roleTable.find? s.link.due.has with
  | some r => some (.announce (s.record r))
  | none => if s.link.due.presence then some (.presence s.presenceRecord) else none

/-- The frame the node begins now, with its content: in LISTEN only PRESENCE (R28, R36). -/
def State.chosenFrame (s : State) : Option Frame :=
  match s.node.state with
  | .config => none
  | .listen => if s.link.due.presence then some (.presence s.presenceRecord) else none
  | .running =>
    match s.link.holdFrame, s.link.queue with
    | some h, _ => some (s.holdContent h)
    | none, d :: _ => some (.directive d)
    | none, [] => s.dueFrame

end Sys2Proof.Machine
end

