-- ==== Sys2Proof/Machine/Link.lean ====
section
/-! DEFINITION. Chapter 2, The Rig Link: line states, sending, receiving, MUTE, the directive queue and
directives (R23 to R40). -/

namespace Sys2Proof.Machine

/-! ### Line state (R23, R24) -/

/-- DOMINANT_EDGE_SEEN (R23): in IDLE a frame begins that the node receives. -/
def execDominantEdgeSeen (s : State) : Host.Outcome State Fault Refusal :=
  .next (if s.link.line = .idle then
    { s with link := { s.link with line := .busy, receiving := true } } else s)

/-- IDLE_INTERVAL_COMPLETE (R23). A frame still in reception when the row is taken ends here without an error counted
(log 24). -/
def execIdleIntervalComplete (s : State) : Host.Outcome State Fault Refusal :=
  .next (
    match s.link.line with
    | .unknown | .busy | .jammed => { s with link := { s.link with line := .idle, receiving := false } }
    | .idle | .owner => s)

/-- The link when the node's transmission ends without a result: its frame stays pending, but a hold frame
that has another waiting gives way to it (R29, R37). -/
def Link.released (k : Link) : Link :=
  match k.holdWaiting with
  | some h => { k with sending := none, holdFrame := some h, holdWaiting := none }
  | none => { k with sending := none }

/-- LINE_JAMMED (R23, R24). A frame still in transmission or in reception when the row is taken ends here
without a fault or an error counted (log 24). -/
def execLineJammed (s : State) : Host.Outcome State Fault Refusal :=
  .next (if s.link.line = .jammed then s
  else
    ({ s with link := { s.link.released with line := .jammed, receiving := false } } : State).raise
      .linkJammed)

/-! ### Sending (R28 to R31, R35) -/

/-- FRAME_BEGIN (R28, R36): the frame chosen, with the content of this moment. -/
def execFrameBegin (s : State) : Host.Outcome State Fault Refusal :=
  .next (
    if s.link.line = .idle ∧ s.link.mute = none ∧ s.station ≠ none then
      match s.chosenFrame with
      | some f => { s with link := { s.link with line := .owner, receiving := false, sending := some f } }
      | none => s
    else s)

/-- ARBITRATION_LOSS (R29), at a bit that `readBack` finds lost to another sender (log 28): the frame stays
pending, the rest of the winner's frame is received. -/
def execArbitrationLoss (s : State) : Host.Outcome State Fault Refusal :=
  .next (if s.link.line = .owner then
    { s with link := { s.link.released with line := .busy, receiving := true } } else s)

/-- The link with a frame that was in transmission taken off its place (R30, R31, R37). -/
def Link.disposed (k : Link) (f : Frame) : Link :=
  match f with
  | .holdSet _ | .holdRelease =>
    { k with sending := none, holdFrame := k.holdWaiting, holdWaiting := none }
  | .directive _ => { k with sending := none, queue := k.queue.tail }
  | .announce a => { k with sending := none, due := k.due.drop (announcedRole a) }
  | .presence _ => { k with sending := none, due := { k.due with presence := false } }

/-- The transmit-fault count after a bit fault; at 8 the node is MUTE (R30, R32). -/
def Link.faulted (k : Link) : Link :=
  let n := min Config.faultLimit (k.faultCount + 1)
  { k with faultCount := n, mute := if n = Config.faultLimit then some .faultLimit else k.mute }

/-- BIT_FAULT (R30, R32), at a bit that `readBack` finds faulty (log 28). -/
def execBitFault (s : State) : Host.Outcome State Fault Refusal :=
  .next (
    match s.link.line, s.link.sending with
    | .owner, some f =>
      let k := { (s.link.disposed f).faulted with line := .busy, receiving := false }
      ({ s with link := k } : State).raiseIf (k.faultCount == Config.faultLimit) .linkMuted
    | _, _ => s)

/-! ### Directives (R38 to R40) -/

/-- The role that takes a directive (R39). -/
def directiveTarget : DirectiveCode → Role
  | .setLithology | .addRemark | .markWater => .head
  | .startPump | .stopPump => .mud
  | .stopTrip => .handler

/-- The length of a directive's argument (R39). -/
def directiveArgLength : DirectiveCode → Nat
  | .setLithology | .addRemark | .startPump | .stopPump => 1
  | .markWater | .stopTrip => 0

/-- The request a directive stands for, on its argument byte (R39). -/
def directiveRequest (c : DirectiveCode) (arg : Byte) : State → Answered :=
  match c with
  | .setLithology => setLithologyRequest arg
  | .addRemark => addRemarkRequest arg
  | .markWater => markWaterRequest
  | .startPump => startPumpRequest arg
  | .stopPump => stopPumpRequest arg
  | .stopTrip => stopTripRequest

/-- The place of a directive's first offending field of code and argument, for a role; none when it is
whole (R38, R39). -/
def directiveFault (r : Role) (code : Byte) (arg : List Byte) : Except Nat DirectiveCode :=
  match directiveTable[code.toNat]? with
  | none => .error 2
  | some c =>
    if directiveTarget c ≠ r then .error 2
    else if arg.length ≠ directiveArgLength c then .error 3
    else .ok c

/-- A directive checked and carried out as the request would be (R39, log 15). -/
def State.carryOut (r : Role) (d : Directive) (s : State) : Answered :=
  s.runningRequest r fun s =>
    match directiveFault r d.code d.arg with
    | .error n => (badValue n, s)
    | .ok c => directiveRequest c (d.arg.headD 0#8) s

/-- A last directive result (R40): the field index for BAD_VALUE, otherwise 0. The code is four bits wide
(R171); of a code above 15 its low four bits are kept (log 34). -/
def directiveResult (source : Station) (d : Directive) (r : Reply) : DirectiveResult :=
  { source := source
    code := d.code.setWidth 4
    result := BitVec.ofNat 8 (statusCode r.status)
    field := if r.status = .badValue then r.body.headD 0#8 else 0#8 }

/-- A job block's last directive result replaced; CAB has none (R40). -/
def DirectiveResults.set (t : DirectiveResults) (r : Role) (x : DirectiveResult) : DirectiveResults :=
  match r with
  | .mud => { t with mud := some x }
  | .handler => { t with handler := some x }
  | .head => { t with head := some x }
  | .cab => t

/-- A directive taken by a job block of this node: its result kept, a refusal raised (R39, R40). -/
def State.takeDirective (r : Role) (source : Station) (d : Directive) (s : State) : State :=
  let a := s.carryOut r d
  ({ a.2 with directives := a.2.directives.set r (directiveResult source d a.1) } : State).raiseIf
    (a.1.status != .ok) .directiveRefused

/-- A directive routed: taken when the map names this node as owner of a target role that takes directives
(R9, R39). -/
def State.routeDirective (source : Station) (d : Directive) (s : State) : State :=
  match roleTable[d.role.toNat]? with
  | none => s
  | some r =>
    if r ≠ .cab ∧ s.station ≠ none ∧ s.owner r = s.station then s.takeDirective r source d else s

def sendDirectiveRequest (role code : Byte) (arg : List Byte) (s : State) : Answered :=
  if !s.running then s.refused .badState
  else
    match roleTable[role.toNat]? with
    | none => (badValue 1, s)
    | some r =>
      match directiveFault r code arg with
      | .error n => (badValue n, s)
      | .ok _ =>
        if Config.queueCapacity ≤ s.link.queue.length then s.refused .queueFull
        else
          let queue := s.link.queue ++ [⟨role, code, arg⟩]
          (okWith (be 1 queue.length), { s with link := { s.link with queue := queue } })

/-- SEND_DIRECTIVE (R38). -/
def execSendDirective (role code : Byte) (arg : List Byte) (s : State) :
    Host.Outcome State Fault Refusal :=
  answered (.sendDirective role code arg) (sendDirectiveRequest role code arg s)

/-! ### FRAME_COMPLETE (R31, R7) -/

/-- A frame of this node handed on at its completion. -/
def State.completedFrame (own : Station) (f : Frame) (s : State) : State :=
  match f with
  | .holdSet _ | .holdRelease => s
  | .directive d => s.routeDirective own d
  | .announce a => s.announcementArrival own a
  | .presence p => s.presenceArrival own p

/-- FRAME_COMPLETE (R31). -/
def execFrameComplete (s : State) : Host.Outcome State Fault Refusal :=
  .next (
    match s.link.line, s.link.sending, s.station with
    | .owner, some f, some own =>
      ({ s with link := { s.link.disposed f with
          line := .busy, receiving := false, faultCount := 0 } } : State).completedFrame own f
    | _, _, _ => s)

/-- All announcements of active roles become due, with PRESENCE (R35). -/
def State.allDue (s : State) : State :=
  { s with
    link := { s.link with due :=
      { mud := s.link.due.mud || s.active .mud, handler := s.link.due.handler || s.active .handler
        head := s.link.due.head || s.active .head, cab := s.link.due.cab || s.active .cab
        presence := true } } }

/-- SEND_PERIOD_EXPIRY (R35). -/
def execSendPeriodExpiry (s : State) : Host.Outcome State Fault Refusal :=
  let s' : State := { s with timers := { s.timers with send := some (s.now + Config.sendPeriod) } }
  .next (
    match s.node.state with
    | .config => s
    | .listen => { s' with link := { s'.link with due := { s'.link.due with presence := true } } }
    | .running => s'.allDue)

/-! ### Receiving (R25 to R27). A frame ends only at a node that receives one (log 7). -/

/-- A receiver done with its frame. -/
def State.frameEnded (s : State) : State := { s with link := { s.link with receiving := false } }

/-- A station clash: STATION_CLASH, and MUTE with the cause CLASH (R27, R32). -/
def State.clash (s : State) : State :=
  ({ s with link := { s.link with mute := some .clash } } : State).raise .stationClash

/-- A valid frame at its end: a clash when it bears this node's own number, otherwise delivered (R26, R27).
-/
def State.deliver (source : Station) (s : State) (f : State → State) : State :=
  if s.link.receiving then
    if s.station = some source then s.frameEnded.clash else f s.frameEnded
  else s

/-- PRESENCE_RECEIVED (R26, R4, R46). -/
def execPresenceReceived (source : Station) (content : Presence) (s : State) :
    Host.Outcome State Fault Refusal :=
  .next (s.deliver source (State.presenceArrival source content))

/-- ANNOUNCEMENT_RECEIVED (R26, R4). -/
def execAnnouncementReceived (source : Station) (content : Announcement) (s : State) :
    Host.Outcome State Fault Refusal :=
  .next (s.deliver source (State.announcementArrival source content))

/-- HOLD_SET_RECEIVED (R45). -/
def execHoldSetReceived (source : Station) (reason : Byte) (s : State) :
    Host.Outcome State Fault Refusal :=
  .next (s.deliver source fun s => s.holdReport source (some reason))

/-- HOLD_RELEASE_RECEIVED (R45). -/
def execHoldReleaseReceived (source : Station) (s : State) : Host.Outcome State Fault Refusal :=
  .next (s.deliver source fun s => (s.holdReport source none).settle)

/-- DIRECTIVE_RECEIVED (R26, R39). -/
def execDirectiveReceived (source : Station) (directive : Directive) (s : State) :
    Host.Outcome State Fault Refusal :=
  .next (s.deliver source (State.routeDirective source directive))

/-- FRAME_RECEIVE_ERROR (R25): counted, whatever the error; the rest of the frame is not received. -/
def execFrameReceiveError (_error : ReceiveError) (s : State) : Host.Outcome State Fault Refusal :=
  .next (if s.link.receiving then
    { s with link := { s.link with receiving := false, errorCount := satAdd 255 s.link.errorCount 1 } }
  else s)

/-- STATION_CLASH (R27): a valid frame with this node's own number that it did not send. -/
def execStationClash (s : State) : Host.Outcome State Fault Refusal :=
  .next (if s.link.receiving ∧ s.station ≠ none then s.frameEnded.clash else s)

/-! ### UNMUTE (R33) -/

def unmuteRequest (s : State) : Answered :=
  if s.link.mute = none then s.refused .badState
  else (okWith [], { s with link := { s.link with mute := none, faultCount := 0 } })

/-- UNMUTE (R33): taken in every node state. -/
def execUnmute (s : State) : Host.Outcome State Fault Refusal := answered .unmute (unmuteRequest s)

end Sys2Proof.Machine
end

