-- ==== Sys2Proof/Machine/Port.lean ====
section
/-! DEFINITION. Chapter 11, the station port: decoding a request transaction, reading the response, READ_ATTENTION
and CLEAR_ATTENTION (R164 to R168). -/

namespace Sys2Proof.Machine

/-! ### The commands of section 11.4 -/

/-- The least and greatest body length a command byte takes; none for a code not in the tables. -/
def bodyLengths (code : Nat) : Option (Nat × Nat) :=
  match code with
  | 0x03 | 0x66 => some (4, 4)
  | 0x04 | 0x06 | 0x07 | 0x21 | 0x23 | 0x2A | 0x2B | 0x40 | 0x41 | 0x51 | 0x52 => some (1, 1)
  | 0x08 => some (2, 6)
  | 0x0B => some (1, 66)
  | 0x0D | 0x55 => some (5, 5)
  | 0x20 => some (8, 8)
  | 0x22 => some (7, 7)
  | 0x24 | 0x30 | 0x54 | 0x60 => some (2, 2)
  | 0x44 => some (3, 3)
  | 0x01 | 0x02 | 0x05 | 0x09 | 0x0A | 0x0C => some (0, 0)
  | 0x25 | 0x26 | 0x27 | 0x28 | 0x29 | 0x2C | 0x2D | 0x2E | 0x2F | 0x31 => some (0, 0)
  | 0x42 | 0x43 | 0x50 | 0x53 | 0x56 | 0x57 => some (0, 0)
  | 0x61 | 0x62 | 0x63 | 0x64 | 0x65 => some (0, 0)
  | _ => none

/-- The common request of a command byte and a body of an allowed length. -/
def commonRequest (code : Nat) (b : List Byte) : Option Instr :=
  match code with
  | 0x01 => some .status
  | 0x02 => some .readAttention
  | 0x03 => some (.clearAttention (quadAt b 0))
  | 0x04 => some (.readPeer (byteAt b 0))
  | 0x05 => some .hold
  | 0x06 => some (.releaseHold (byteAt b 0))
  | 0x07 => some (.clearHold (byteAt b 0))
  | 0x08 => some (.sendDirective (byteAt b 0) (byteAt b 1) (b.drop 2))
  | 0x09 => some .unmute
  | 0x0A => some .reset
  | 0x0B => some (.configure (byteAt b 0) (b.drop 1))
  | 0x0C => some .start
  | 0x0D => some (.setClock (wordAt b 0) (wordAt b 2) (byteAt b 4))
  | _ => none

/-- The role request of a command byte and a body of an allowed length, fields in the order of its rule. -/
def roleRequestOf (code : Nat) (b : List Byte) : Option Instr :=
  match code with
  | 0x20 => some (.registerRod (byteAt b 0) (wordAt b 1) (byteAt b 3) (wordAt b 4) (wordAt b 6))
  | 0x21 => some (.unregisterRod (byteAt b 0))
  | 0x22 => some (.appendString (wordAt b 0) (byteAt b 2) (wordAt b 3) (wordAt b 5))
  | 0x23 => some (.setCarousel (byteAt b 0))
  | 0x24 => some (.correctTally (wordAt b 0))
  | 0x25 => some .clearTally
  | 0x26 => some .readRack
  | 0x27 => some .readString
  | 0x28 => some .makeup
  | 0x29 => some .breakout
  | 0x2A => some (.tripIn (byteAt b 0))
  | 0x2B => some (.tripOut (byteAt b 0))
  | 0x2C => some .stopTrip
  | 0x2D => some .resume
  | 0x2E => some .retryStep
  | 0x2F => some .abort
  | 0x30 => some (.resolveTransit (byteAt b 0) (byteAt b 1))
  | 0x31 => some .confirmRecovery
  | 0x40 => some (.startPump (byteAt b 0))
  | 0x41 => some (.stopPump (byteAt b 0))
  | 0x42 => some .unlock
  | 0x43 => some .confirmBled
  | 0x44 => some (.addAdditive (byteAt b 0) (wordAt b 1))
  | 0x50 => some .newHole
  | 0x51 => some (.setLithology (byteAt b 0))
  | 0x52 => some (.addRemark (byteAt b 0))
  | 0x53 => some .markWater
  | 0x54 => some (.trim (wordAt b 0))
  | 0x55 => some (.fetchRecord (byteAt b 0) (quadAt b 1))
  | 0x56 => some .readCursor
  | 0x57 => some .verify
  | 0x60 => some (.openJob (wordAt b 0))
  | 0x61 => some .suspendJob
  | 0x62 => some .resumeJob
  | 0x63 => some .closeJob
  | 0x64 => some .fetchSummary
  | 0x65 => some .readMeters
  | 0x66 => some (.addCharge (quadAt b 0))
  | _ => none

def requestOf (code : Nat) (b : List Byte) : Option Instr :=
  (commonRequest code b).or (roleRequestOf code b)

/-! ### REQUEST_DECODE (R164) -/

/-- A decoded transaction: a request taken, or discarded with its status. -/
inductive Decoded where
  | taken (request : Instr)
  | discarded (reply : Reply)

/-- The table of R164 on a command byte and the whole bytes after it. -/
def decodeRequest (command : Byte) (rest : List Byte) : Decoded :=
  match bodyLengths command.toNat with
  | none => .discarded (refuse .unknown)
  | some (least, most) =>
    match rest with
    | [] => .discarded (refuse .truncated)
    | length :: body =>
      let n := length.toNat
      if body.length < n then .discarded (refuse .truncated)
      else if 66 < n ∨ n < least ∨ most < n then .discarded (badValue 0)
      else
        match requestOf command.toNat (body.take n) with
        | some i => .taken i
        | none => .discarded (refuse .unknown)

/-- No body exists under these statuses (R165). -/
def noBody (c : Status) : Bool := c == .pending || c == .unknown || c == .truncated || c == .noRequest

/-- What is left of the body as sent: a two-byte count of the content, then the content (R165). -/
def Port.unread (p : Port) : List Byte :=
  if noBody p.status then [] else (be 2 p.body.length ++ p.body).drop p.readPos

/-- A response read in which `n` whole bytes are clocked (R165). -/
def Port.read (p : Port) (n : Nat) : Port :=
  match n with
  | 0 => p
  | k + 1 =>
    let sent := p.unread.take k
    { p with
      readPos := p.readPos + sent.length
      out := BitVec.ofNat 8 (statusCode p.status) :: (sent ++ List.replicate (k - sent.length) 0#8) }

/-- A request transaction: the status byte, then zeros, are shifted out; the previous response is discarded
(R164). -/
def Port.decode (p : Port) (command : Byte) (rest : List Byte) : Port :=
  let out := BitVec.ofNat 8 (statusCode p.status) :: List.replicate rest.length 0#8
  match decodeRequest command rest with
  | .taken i => { p with status := .pending, body := [], readPos := 0, taken := p.taken ++ [i], out := out }
  | .discarded r => { p.fill r with out := out }

/-- REQUEST_DECODE (R164): the whole bytes of a transaction; one whose first byte is 0x00 is a response read,
one without a whole byte changes nothing. -/
def execRequestDecode (bytes : List Byte) (s : State) : Host.Outcome State Fault Refusal :=
  .next (
    match bytes with
    | [] => s
    | b :: rest =>
      if b = 0#8 then { s with port := s.port.read bytes.length }
      else { s with port := s.port.decode b rest })

/-- RESPONSE_READ (R165). -/
def execResponseRead (clocked : Nat) (s : State) : Host.Outcome State Fault Refusal :=
  .next { s with port := s.port.read clocked }

/-! ### READ_ATTENTION and CLEAR_ATTENTION (R167, R168) -/

def causeField (c : BitVec 32) : List Byte := be 4 c.toNat

/-- READ_ATTENTION (R167): taken in every node state. -/
def execReadAttention (s : State) : Host.Outcome State Fault Refusal :=
  answered .readAttention (okWith (causeField s.causes ++ causeField s.mask), s)

def clearAttentionRequest (named : BitVec 32) (s : State) : Answered :=
  if named &&& ~~~allCauses ≠ 0#32 then (badValue 1, s)
  else
    let left := s.causes &&& ~~~(named &&& ~~~causeBit .storeFault)
    (okWith (causeField left), { s with causes := left })

/-- CLEAR_ATTENTION (R168): taken in every node state. -/
def execClearAttention (causes : BitVec 32) (s : State) : Host.Outcome State Fault Refusal :=
  answered (.clearAttention causes) (clearAttentionRequest causes s)

end Sys2Proof.Machine
end

