-- ==== Sys2Proof/Machine/Timers.lean ====
section
/-! DEFINITION. The node's time base (log 2, 3, 4, 5): one bit time passing on an empty queue, the ages that
grow with it, and the timed commands that have become due. -/

namespace Sys2Proof.Machine

/-- All ages grown by `n` steps of 10 ms: the slots of the peer view table and the silence ages (R3, R42).
-/
def State.ages (n : Nat) (s : State) : State :=
  { s with
    peers := s.peers.map (PeerEntry.aged n)
    holds := { s.holds with others := s.holds.others.map (Option.map (HoldEntry.aged n)) } }

/-- One bit time passes; at each tenth part of a 100 ms step the ages grow by 10 ms. At the end of the step
time waits for TIME_BASE_STEP. -/
def State.bitTime (s : State) : State :=
  if Config.tenth ≤ s.time.sub then s
  else
    let s' := { s with time := { s.time with sub := s.time.sub + 1 } }
    if s'.time.sub % Config.ageStep = 0 then s'.ages 1 else s'

/-- A running period that has come to its end. -/
def State.expired (s : State) (deadline : Option Nat) : Bool :=
  match deadline with
  | some t => decide (t ≤ s.now)
  | none => false

def slotNames : List SlotName :=
  [.presence, .announce .mud, .announce .handler, .announce .head, .announce .cab]

/-- The slot events due in the peer view table: FRESH at 1,500 ms or more, STALE at 10,000 ms (R5). -/
def State.slotEvents (s : State) : List Instr :=
  stations.flatMap fun st => slotNames.flatMap fun n =>
    match s.peers[st].freshness n with
    | .fresh => if Config.staleAge ≤ s.peers[st].age n then [.slotStale st n] else []
    | .stale => if Config.lostAge ≤ s.peers[st].age n then [.slotLost st n] else []
    | .unheard | .lost => []

/-- The silence expiries due in the hold set (R47). -/
def State.silenceEvents (s : State) : List Instr :=
  stations.flatMap fun st =>
    match s.holds.others[st] with
    | some e =>
      if e.state = .active ∧ Config.lostAge ≤ e.silence ∧ !s.peers[st].presence.freshness.heard then
        [.holdSilenceExpiry st]
      else []
    | none => []

/-- The expiries of the timers counted in steps of 100 ms: their last step of time is running out (R76, R91).
-/
def State.stepExpiries (s : State) : List Instr :=
  (if s.stepTimerRuns && decide (s.seq.timer ≤ 1) then [.stepTimerExpiry] else []) ++
  [Pump.one, Pump.two].flatMap fun p =>
    if s.pumpTimerRuns p && decide ((s.circ.pump p).timer ≤ 1) then [.pumpTimerExpiry p] else []

/-- A kind that the node may send now is pending (R28, R36): in RUNNING any, in LISTEN only PRESENCE. -/
def State.sendPending (s : State) : Bool :=
  match s.node.state with
  | .config => false
  | .listen => s.link.due.presence
  | .running => s.link.holdFrame.isSome || !s.link.queue.isEmpty || s.link.due != .none

/-- The conditions under which the node begins a frame (R28). -/
def State.mayBegin (s : State) : Bool :=
  s.link.line == .idle && s.link.mute.isNone && s.station.isSome && s.sendPending

/-- The timed commands due now, in the order in which the model lets coincident ones happen (log 5). -/
def State.dueEvents (s : State) : List Instr :=
  (if Config.tenth ≤ s.time.sub then s.stepExpiries ++ [.timeBaseStep] else []) ++
  s.slotEvents ++ s.silenceEvents ++
  (if s.expired s.timers.clock then [.clockSecond] else []) ++
  (if s.expired s.timers.send then [.sendPeriodExpiry] else []) ++
  (if s.expired s.timers.listen then [.listenTimerExpiry] else []) ++
  (if s.expired s.timers.balance then [.balancePeriodExpiry] else []) ++
  (if s.expired s.timers.rop then [.ropSampleExpiry] else []) ++
  (if s.expired s.timers.second then [.secondStep] else []) ++
  (if s.expired (s.depth.rotation.map (· + Config.second)) && s.acts .head then [.rotationWaitExpiry]
   else []) ++
  (if s.expired s.timers.scan then [.verifyScanStep] else []) ++
  (if s.mayBegin then [.frameBegin] else [])

/-- What the node does by itself when no command waits: one bit time passes, the timed commands that are due
are queued, and behind them the oldest request taken is handed to its block (log 2, log 6). -/
def State.idle (s : State) : State :=
  let s' := s.bitTime
  { s' with pending := s'.dueEvents ++ s'.port.taken.take 1 }

end Sys2Proof.Machine
end

