-- ==== Sys2Proof/Machine/Supervisor.lean ====
section
/-! DEFINITION. Chapter 12, Start-Up and Retained Memory: CONFIGURE, START, RUNNING entry, the node clock, the
two resets, and the 100 ms step of the node's time base (R175 to R181). -/

namespace Sys2Proof.Machine

/-! ### CONFIGURE (R176) -/

/-- The first field whose check fails; fields are numbered from the group code, which is 1. -/
def firstBad (checks : List (Nat × Bool)) : Option Nat := (checks.find? fun p => !p.2).map (·.1)

/-- Checks numbered from a field on. -/
def checksFrom (field : Nat) (bs : List Bool) : List (Nat × Bool) := (bs.zipIdx field).map fun p => (p.2, p.1)

def within (low high v : Nat) : Bool := decide (low ≤ v) && decide (v ≤ high)

/-- `count` numbers of `width` bytes from byte `i`. -/
def numsAt (bs : List Byte) (i width count : Nat) : List Nat :=
  (List.range count).map fun k => numAt bs (i + width * k) width

/-- The same numbers as a table. -/
def tableAt (n : Nat) (bs : List Byte) (i width : Nat) : Vector Nat n :=
  Vector.ofFn fun k : Fin n => numAt bs (i + width * k.val) width

/-- The NODE group: station number, roles held, attention mask (R1, R167, log 20). -/
def readNode (bs : List Byte) : Except Nat NodeConfig :=
  let station := numAt bs 0 1
  let roles := numAt bs 1 1
  let mask := quadAt bs 2
  match firstBad (checksFrom 2 [within 0 7 station, within 1 15 roles, mask &&& ~~~allCauses == 0#32]) with
  | some n => .error n
  | none => .ok ⟨Fin.ofNat 8 station, roleSetOf roles, mask⟩

/-- The MUD group as its 38 bytes stand: the table of R106 with four areas, then that of R90. -/
def mudGroup (bs : List Byte) : MudConfig :=
  { pits := numAt bs 0 1
    areas := tableAt 4 bs 1 2
    waterFactor := numAt bs 9 2
    steel := numAt bs 11 2
    hole := numAt bs 13 4
    deadband := numAt bs 17 2
    gainThreshold := numAt bs 19 2
    lossThreshold := numAt bs 21 2
    displacement1 := numAt bs 23 2
    displacement2 := numAt bs 25 2
    efficiency1 := numAt bs 27 1
    efficiency2 := numAt bs 28 1
    returnsThreshold := numAt bs 29 2
    bleedThreshold := numAt bs 31 2
    suctionPit := numAt bs 33 1
    startWatermark := numAt bs 34 2
    lowWatermark := numAt bs 36 2 }

/-- The ranges of R106 and R90, field by field; areas of pits above n are not checked. -/
def MudConfig.checks (c : MudConfig) : List (Nat × Bool) :=
  checksFrom 2
    ([within 1 4 c.pits] ++
     (List.finRange 4).map (fun i => decide (c.pits ≤ i.val) || within 1 60000 c.areas[i]) ++
     [within 1 1000 c.waterFactor, within 0 20000 c.steel, within 0 200000 c.hole,
      within 0 50000 c.deadband, within 1 5000 c.gainThreshold, within 1 5000 c.lossThreshold,
      within 1 65535 c.displacement1, within 1 65535 c.displacement2, within 50 100 c.efficiency1,
      within 50 100 c.efficiency2, within 1 1000 c.returnsThreshold, within 50 2000 c.bleedThreshold,
      within 1 c.pits c.suctionPit, within 1 24000 c.startWatermark,
      within 0 23999 c.lowWatermark && decide (c.lowWatermark < c.startWatermark)])

/-- The HANDLER group: wear limit, step timeout in seconds (R53, R76). -/
def handlerGroup (bs : List Byte) : HandlerConfig := ⟨numAt bs 0 2, numAt bs 2 2⟩

def HandlerConfig.checks (c : HandlerConfig) : List (Nat × Bool) :=
  checksFrom 2 [within 50 2000 c.wearLimit, within 10 600 c.stepTimeout]

/-- The HEAD group: the table of R120, then the interval length (R133). -/
def headGroup (bs : List Byte) : HeadConfig :=
  ⟨numAt bs 0 4, numAt bs 4 2, numAt bs 6 2, numAt bs 8 2, numAt bs 10 2, numAt bs 12 2⟩

def HeadConfig.checks (c : HeadConfig) : List (Nat × Bool) :=
  checksFrom 2 [within 1 2000000 c.travelCount, within 10 10000 c.micronsPerCount,
    within 0 3000 c.tableHeight, within 10 1000 c.resyncTolerance, within 10 500 c.bottomTolerance,
    within 500 5000 c.intervalLength]

/-- The CAB group: sixteen prices, then the windows as a count and that many pairs (R152). -/
def cabGroup (bs : List Byte) : CabConfig :=
  { timeRates := tableAt 7 bs 0 2
    bandRates := tableAt 4 bs 14 2
    additivePrices := tableAt 4 bs 22 2
    wearPrice := numAt bs 30 2
    windows := (List.range (numAt bs 32 1)).map fun k =>
      ⟨numAt bs (33 + 4 * k) 2, numAt bs (35 + 4 * k) 2⟩ }

/-- The checks of the windows from a field on: start in range and above the start before, multiplier in
range. -/
def windowChecks (field : Nat) (before : Option Nat) : List TariffWindow → List (Nat × Bool)
  | [] => []
  | w :: ws =>
    (field, within 0 1439 w.start && before.all (· < w.start)) :: (field + 1, within 0 1023 w.multiplier) ::
      windowChecks (field + 2) (some w.start) ws

def CabConfig.checks (c : CabConfig) : List (Nat × Bool) := windowChecks 19 none c.windows

/-- The size of a group's values; the CAB group's follows from its window count, 0 to 8. -/
def groupSize (group : Nat) (bs : List Byte) : Option Nat :=
  match group with
  | 0 => some 6
  | 1 => some 38
  | 2 => some 4
  | 3 => some 14
  | _ => if 33 ≤ bs.length ∧ numAt bs 32 1 ≤ 8 then some (33 + 4 * numAt bs 32 1) else none

/-- The configuration with a group replaced, or the first offending field. -/
def Node.configured (n : Node) (group : Nat) (bs : List Byte) : Except Nat Node :=
  let checked (checks : List (Nat × Bool)) (n' : Node) : Except Nat Node :=
    match firstBad checks with
    | some f => .error f
    | none => .ok n'
  match group with
  | 0 => (readNode bs).map fun c => { n with node := some c }
  | 1 => checked (mudGroup bs).checks { n with mud := some (mudGroup bs) }
  | 2 => checked (handlerGroup bs).checks { n with handler := some (handlerGroup bs) }
  | 3 => checked (headGroup bs).checks { n with head := some (headGroup bs) }
  | _ => checked (cabGroup bs).checks { n with cab := some (cabGroup bs) }

def configureRequest (group : Byte) (values : List Byte) (s : State) : Answered :=
  if s.node.state ≠ .config then s.refused .configLocked
  else if 4 < group.toNat then (badValue 1, s)
  else if groupSize group.toNat values ≠ some values.length then (badValue 0, s)
  else
    match s.node.configured group.toNat values with
    | .error f => (badValue f, s)
    | .ok n => (okWith [], { s with node := n })

/-- CONFIGURE (R176). -/
def execConfigure (group : Byte) (values : List Byte) (s : State) : Host.Outcome State Fault Refusal :=
  answered (.configure group values) (configureRequest group values s)

/-! ### START (R177) -/

/-- The configuration group of a role is configured. -/
def Node.hasGroup (n : Node) : Role → Bool
  | .mud => n.mud.isSome
  | .handler => n.handler.isSome
  | .head => n.head.isSome
  | .cab => n.cab.isSome

/-- The NODE group is configured, and the group of every role it holds. -/
def State.mayStart (s : State) : Bool :=
  s.node.node.isSome && roleTable.all fun r => !s.holdsRole r || s.node.hasGroup r

/-- A hold set entry under the node's own station number removed (R42). -/
def State.dropOwnEntry (s : State) : State :=
  match s.station with
  | some own => s.setEntry own none
  | none => s

/-- LISTEN entered (R177). -/
def State.started (s : State) : State :=
  let s1 : State := { s with
    node := { s.node with state := .listen, yielded := .empty }
    timers := { s.timers with
      listen := some (s.now + Config.twoSeconds), send := some (s.now + Config.sendPeriod) }
    link := { s.link with due := { s.link.due with presence := true } } }
  let s2 := (s1.yieldRoles s1.claimedBelow).dropOwnEntry
  if s2.active .head then s2.beginScan else s2

def startRequest (s : State) : Answered :=
  if s.node.state ≠ .config ∨ !s.mayStart then s.refused .badState else (okWith [], s.started)

/-- START (R177). -/
def execStart (s : State) : Host.Outcome State Fault Refusal := answered .start (startRequest s)

/-! ### RUNNING entry (R178) -/

/-- HANDLER's entry on its own state (R178). -/
def State.handlerEntry (s : State) : State := if s.holdsRole .handler then s.enterRecover else s

def State.mudEntry (s : State) : State :=
  if s.active .mud then
    let s' := s.pumpsAtEntry
    { s' with timers := { s'.timers with balance := some (s'.now + Config.twoSeconds) } }
  else s

def State.headEntry (s : State) : State :=
  if s.active .head then
    let s' := s.depthAtEntry
    { s' with timers := { s'.timers with rop := some (s'.now + Config.twoSeconds) } }
  else s

def State.cabEntry (s : State) : State :=
  if s.active .cab then
    let s' := s.takeClass (s.node.cab.getD noTariff) (s.clock.time.map (·.minute))
    { s' with timers := { s'.timers with second := some (s'.now + Config.second) } }
  else s

/-- RUNNING entered (R178), HANDLER first: the RECOVERY reason is placed before CAB takes its first class (log 40).
-/
def State.enterRunning (s : State) : State :=
  let s' : State := { s with
    node := { s.node with state := .running }, timers := { s.timers with listen := none } }
  s'.handlerEntry.mudEntry.headEntry.cabEntry.allDue

/-- LISTEN_TIMER_EXPIRY (R175, R178). -/
def execListenTimerExpiry (s : State) : Host.Outcome State Fault Refusal :=
  .next (if s.node.state = .listen then s.enterRunning else s)

/-! ### The node clock (R179) -/

/-- One second on. -/
def ClockTime.tick (t : ClockTime) : ClockTime :=
  if t.second < 59 then { t with second := t.second + 1 }
  else if t.minute < 1439 then { t with second := 0, minute := t.minute + 1 }
  else ⟨if t.day < 65534 then t.day + 1 else 0, 0, 0⟩

/-- CLOCK_SECOND (R179): while the clock is set; an advance of the minute leaves the minute it left, for a
second step of the same instant (R155, log 29). -/
def execClockSecond (s : State) : Host.Outcome State Fault Refusal :=
  .next (
    match s.clock.time with
    | some t =>
      let last := if t.second < 59 then none else some (s.now, t.minute)
      { s with
        clock := ⟨some t.tick, last⟩
        timers := { s.timers with clock := some (s.now + Config.second) } }
    | none => s)

/-- SET_CLOCK's values checked and loaded, with a whole second to the next advance (R179, log 41). -/
def setClockRequest (day minute : BitVec 16) (second : Byte) (s : State) : Answered :=
  match firstBad (checksFrom 1 [within 0 65534 day.toNat, within 0 1439 minute.toNat,
      within 0 59 second.toNat]) with
  | some f => (badValue f, s)
  | none =>
    (okWith [], { s with
      clock := ⟨some ⟨day.toNat, minute.toNat, second.toNat⟩, none⟩
      timers := { s.timers with clock := some (s.now + Config.second) } })

/-- SET_CLOCK (R179): taken in every node state. -/
def execSetClock (day minute : BitVec 16) (second : Byte) (s : State) :
    Host.Outcome State Fault Refusal :=
  answered (.setClock day minute second) (setClockRequest day minute second s)

/-! ### Resets (R180, R181) -/

/-- All volatile state at its reset values, but for what the two resets treat differently; the lines, the
time base and the commands that wait are not the node's to clear (log 3, log 10). -/
def State.cleared (s : State) : State :=
  { s with
    node := { s.node with
      state := .config, node := none, mud := none, handler := none, head := none, cab := none
      yielded := .empty }
    timers := { Timers.stopped with clock := s.timers.clock }
    peers := peersAtReset
    link := .atReset
    directives := .atReset
    holds := .atReset
    inventory := { s.inventory with carousel := 0 }
    seq := s.seq.afterReset
    circ := .atReset
    bal := .atReset
    depth := s.depth.afterReset
    log := s.log.afterReset
    meter := { s.meter with activity := .held, window := none }
    port := .atReset }

/-- A port reset: clock and RETAINED_LOST kept, epoch incremented (R180, R167). -/
def State.portReset (s : State) : State :=
  let s' := s.cleared
  { s' with
    node := { s'.node with epoch := s.node.epoch + 1 }
    causes := s.causes &&& causeBit .retainedLost }

/-- Retained state as initialised (R181). -/
def State.initialised (s : State) : State :=
  { s with
    inventory := .initial, seq := .initial, depth := .initial, log := .initial, meter := .initial }

/-- A power-on reset that finds the retained-memory marker valid, or not (R180, R181). -/
def State.powerOn (valid : Bool) (s : State) : State :=
  let s' : State := { s.cleared with clock := ⟨none, none⟩, timers := .stopped }
  if valid then
    { s' with
      node := { s'.node with epoch := s.node.epoch + 1, foundInvalid := false }
      causes := 0#32 }
  else
    { s'.initialised with
      node := { s'.node with epoch := 0#16, marker := true, foundInvalid := true }
      causes := causeBit .retainedLost }

/-- POWER_ON_RESET (R180, R181): the marker is valid if it was and the retained memory survived (log 31). -/
def execPowerOnReset (memoryKept : Bool) (s : State) : Host.Outcome State Fault Refusal :=
  .next (s.powerOn (s.node.marker && memoryKept))

/-- RESET (R180): the port reset leaves no answer (R165). -/
def execReset (s : State) : Host.Outcome State Fault Refusal := .next s.portReset

/-! ### The 100 ms step of the time base (R76, R91, R102, R135) -/

/-- The time base brought to the end of its 100 ms step, with the 10 ms steps of the ages that it takes (log
3). -/
def State.toTenth (s : State) : State :=
  { s.ages (10 - s.time.sub / Config.ageStep) with time := ⟨s.time.tenths + 1, 0⟩ }

/-- The step timer one step on; its last step is the expiry's (log 4). -/
def Sequencer.tick (q : Sequencer) : Sequencer :=
  { q with timer := if 1 < q.timer then q.timer - 1 else q.timer }

/-- TIME_BASE_STEP: step timer, pump timers and running seconds, on-bottom time. -/
def execTimeBaseStep (s : State) : Host.Outcome State Fault Refusal :=
  let s1 := s.toTenth
  let s2 : State := if s.stepTimerRuns then { s1 with seq := s1.seq.tick } else s1
  let s3 : State := if s.acts .mud then { s2 with circ := s2.circ.tick } else s2
  .next (if s.acts .head && s.log.onBottom then s3.mapInterval Interval.tick else s3)

end Sys2Proof.Machine
end

