-- ==== Sys2Proof/Machine/Status.lean ====
section
/-! DEFINITION. STATUS (R173): the run of parts, each the items its owning chapter lists, coded by R170 (R34,
R49, R69, R105, R118, R130, R133, R175; log 13, 14, 21, 49). -/

namespace Sys2Proof.Machine

/-- A part: code, two-byte length, content. -/
def part (code : Nat) (content : List Byte) : List Byte := be 1 code ++ be 2 content.length ++ content

/-! ### NODE (R175) -/

/-- The codes of the configured groups (R170). -/
def configuredGroups (n : Node) : List Nat :=
  (if n.node.isSome then [0] else []) ++ (if n.mud.isSome then [1] else []) ++
  (if n.handler.isSome then [2] else []) ++ (if n.head.isSome then [3] else []) ++
  (if n.cab.isSome then [4] else [])

/-- The time left on the listen timer in steps of 100 ms, 0 outside LISTEN (log 21). -/
def State.listenLeft (s : State) : Nat :=
  match s.timers.listen with
  | some t => (t - s.now + (Config.tenth - 1)) / Config.tenth
  | none => 0

/-- Clock-set flag, day count, minute, second. -/
def clockField : Option ClockTime → List Byte
  | some t => flagByte true ++ be 2 t.day ++ be 2 t.minute ++ be 1 t.second
  | none => flagByte false ++ timeField none ++ [Config.unsetSecond]

def State.nodePart (s : State) : List Byte :=
  codeByte nodeStateTable s.node.state ++ stationField s.station ++ be 1 (roleNibble s.rolesHeld) ++
  be 1 (roleNibble s.node.yielded) ++ listField (be 1) (configuredGroups s.node) ++
  be 1 s.listenLeft ++ be 2 s.node.epoch.toNat ++ clockField s.clock.time ++
  flagByte s.node.foundInvalid

/-! ### LINK (R34) -/

/-- The kind code of a hold frame in its slot (R22). -/
def holdFrameCode : HoldFrame → Nat
  | .set => 0
  | .release => 1

/-- The kind codes currently due (R22). -/
def dueKinds (d : Due) : List Nat :=
  (if d.mud then [3] else []) ++ (if d.handler then [4] else []) ++ (if d.head then [5] else []) ++
  (if d.cab then [6] else []) ++ (if d.presence then [7] else [])

def Link.part (k : Link) : List Byte :=
  codeByte lineStateTable k.line ++ flagByte k.mute.isSome ++
  optionalField (codeByte muteCauseTable) k.mute ++ be 1 k.faultCount ++ be 1 k.errorCount ++
  be 1 k.queue.length ++ optionalField (fun h => be 1 (holdFrameCode h)) k.holdFrame ++
  listField (be 1) (dueKinds k.due)

/-! ### HOLD (R49) -/

/-- The reason and state of a station's entry, the own one kept from the local reasons (R42). -/
def State.entryShown (s : State) (st : Station) : Option (Byte × HoldState) :=
  if s.station = some st ∧ s.holds.reasons ≠ .empty then
    s.holds.reasons.first.map fun r => (r.bits, .active)
  else entryFace s.holds.others[st]

/-- The entries by station number. -/
def State.entriesShown (s : State) : List (Station × Byte × HoldState) :=
  stations.filterMap fun st => (s.entryShown st).map fun e => (st, e)

def entryField (e : Station × Byte × HoldState) : List Byte :=
  be 1 e.1.val ++ [e.2.1] ++ codeByte holdStateTable e.2.2

def State.holdPart (s : State) : List Byte :=
  listField entryField s.entriesShown ++ reasonSetField s.holds.reasons ++ flagByte s.held

/-! ### MUD (R105) -/

/-- One pump: state, time left (0 while the timer is stopped), running input, running seconds and tenths. -/
def State.pumpField (s : State) (p : Pump) : List Byte :=
  let r := s.circ.pump p
  codeByte pumpStateTable r.state ++ be 1 (if s.pumpTimerRuns p then r.timer else 0) ++
  flagByte (s.pins.pumpRun p) ++ be 4 r.seconds ++ be 1 r.tenths

def State.mudPart (s : State) : List Byte :=
  let c := s.circ
  s.pumpField .one ++ s.pumpField .two ++
  codeByte circStateTable c.state ++ be 1 c.bled ++ be 2 c.returns ++ be 1 c.absent ++
  flagByte c.returnsAbsent ++ be 2 c.strokes1 ++ be 2 c.strokes2 ++ be 4 c.flowIn ++ be 2 c.pressure ++
  be 1 c.heldSamples ++ flagByte (c.heldSamples == 5) ++ optionalField (be 2) s.suctionVolume ++
  flagByte s.suctionLow ++ c.additives.toList.flatMap (be 4) ++ resultField s.directives.mud

/-! ### BALANCE (R118) -/

/-! The write position stands as its slot number from 0, and the slots from the first on (log 14). -/

def windowSlotField (w : WindowSlot) : List Byte := beSigned 4 w.value ++ flagByte w.degraded

def pitField (r : PitRecord) : List Byte :=
  optionalField (be 2) r.level ++ optionalField (be 2) r.inUse ++ flagByte r.held ++ flagByte r.holdEnded

/-- The records of the active pits; none in STATUS while MUD is held and its group, hence the number of pits, is
unconfigured, by the model's choice (log 49). -/
def State.activeRecords (s : State) : List PitRecord :=
  match s.node.mud with
  | some c => c.activePits.map fun i => s.bal.pits[i]
  | none => []

/-- P (R109); 0 without the MUD group. -/
def State.totalVolume (s : State) : Nat :=
  match s.node.mud with
  | some c => pitVolume c s.bal.pits
  | none => 0

def State.balancePart (s : State) : List Byte :=
  let b := s.bal
  codeByte conditionTable b.announced ++ codeByte conditionTable b.underlying ++ beSigned 6 b.sum ++
  be 1 b.degradedCount ++ b.window.toList.flatMap windowSlotField ++ be 1 b.position.val ++
  beSigned 4 b.last ++ flagByte b.lastSaturated ++ listField pitField s.activeRecords ++
  be 4 s.totalVolume ++ be 4 b.prevD ++ be 4 b.prevH ++ flagByte b.depthHeld ++
  beSigned 1 b.steelResidue ++ beSigned 1 b.holeResidue ++ be 6 b.gainTotal ++ be 6 b.lossTotal ++
  be 2 b.water

/-! ### HANDLER (R69) -/

/-- A fault cause: 0 TIMEOUT, or 1 MOVE_REFUSED, with the refusal code as an optional field (log 14). -/
def faultField : FaultCause → List Byte
  | .timeout => be 1 0 ++ optionalField (be 1) none
  | .moveRefused code => be 1 1 ++ optionalField (be 1) (some (statusCode code))

def slotNumber (i : RackSlot) : List Byte := be 1 i.val

def markerField (m : CycleMarker) : List Byte :=
  codeByte cycleKindTable m.kind ++ codeByte stepTable (some m.step) ++ codeByte seqStateTable m.state ++
  slotNumber m.slot ++ optionalField (be 2) m.rod

def planField (p : TripPlan) : List Byte :=
  codeByte cycleKindTable p.kind ++ be 1 p.remaining ++ flagByte p.faultPause ++ flagByte p.holdPause ++
  optionalField (fun c => be 1 (statusCode c)) p.endCause

def inventoryField (v : Inventory) : List Byte :=
  be 1 v.carousel.val ++ be 1 v.serviceableCount ++ be 1 v.emptyCount ++ be 1 v.string.length ++
  beSigned 2 v.tally ++ flagByte v.adjusted ++ be 4 v.length

def State.handlerPart (s : State) : List Byte :=
  let q := s.seq
  codeByte seqStateTable q.state ++ codeByte cycleKindTable q.kind ++ codeByte stepTable q.step ++
  optionalField slotNumber q.slot ++ optionalField faultField q.fault ++ be 2 q.timer ++
  flagByte s.stepTimerRuns ++ planField q.plan ++ flagByte s.breakoutPermit ++ flagByte q.lockedMark ++
  be 4 q.makeups ++ be 4 q.breakouts ++ optionalField markerField q.marker ++ inventoryField s.inventory

/-! ### DEPTH (R130) -/

/-- H; 0 without the HEAD group (R123, R131). -/
def State.headHeight (s : State) : Nat :=
  match s.node.head with
  | some c => c.height s.depth.count
  | none => 0

/-- The instant of a recorded drive rise, in a free code. R130 gives it no unit, range or width: the four bytes are
the model's choice (log 13). -/
def instantField (t : Nat) : List Byte := be 4 (Config.instantCode t).toNat

/-- The DEPTH part; the ROP ring in storage order from its first slot, four bytes a slot (log 14). -/
def State.depthPart (s : State) : List Byte :=
  let t := s.depth
  be 4 t.count ++ be 4 s.headHeight ++ be 4 t.d ++ be 4 t.dmax ++ be 4 t.advance ++
  codeByte trackingTable t.tracking ++ flagByte t.jumpHeld ++ flagByte s.pins.headDrive ++
  flagByte s.pins.home ++ optionalField instantField t.driveRise ++ be 4 t.lastL ++
  flagByte t.onBottom ++ t.ring.toList.flatMap (be 4) ++ be 1 t.filled ++ t.footage.toList.flatMap (be 4)

/-! ### LOG (R133) -/

def baselineItems (b : MudBaseline) : List Byte := be 4 b.gain ++ be 4 b.loss ++ be 2 b.epoch.toNat

/-- The open interval in the order of R133's table. The model's choices (log 14): its flags stand as the flag byte
of R172; its lower part, the last field of the table and also the item R133 names after it, stands once, behind a
presence byte, as bytes 4 to 48 of a record in fetch layout. -/
def intervalField (iv : Interval) : List Byte :=
  be 4 iv.sequence ++ be 4 iv.gridBase ++ be 4 iv.top ++ codeByte lithologyTable iv.lithology ++
  be 2 iv.jobNumber ++ timeField iv.openTime ++ be 4 iv.bottomSeconds ++ be 1 iv.bottomTenths ++
  be 4 iv.revolutions ++ optionalField baselineItems iv.baseline ++ be 1 (flagsByte iv.flags) ++
  listField (fun b => [b]) iv.remarks ++ optionalField bodyField iv.lower

/-- The scan: state, then position, fixed end and faulty record as optional fields (log 14). -/
def scanField (k : Scan) : List Byte :=
  codeByte scanStateTable k.state ++ optionalField (be 4) k.position ++ optionalField (be 4) k.last ++
  optionalField (be 4) k.faulty

/-- The LOG part; while HEAD is held and its group is unconfigured the next boundary shown is the grid base
(log 49). -/
def State.logPart (s : State) : List Byte :=
  let g := s.log
  intervalField g.current ++ be 4 (g.current.nextBoundary s.intervalLength s.depth.dmax) ++
  be 2 g.store.length ++ optionalField (be 4) g.oldestStored ++ optionalField (be 4) g.newestStored ++
  be 4 g.cursor ++ flagByte g.latch ++
  scanField g.scan ++ be 1 g.discards

/-! ### The body (R173) -/

/-- A part present while its role is held. -/
def State.rolePart (s : State) (r : Role) (bytes : List Byte) : List Byte :=
  if s.holdsRole r then bytes else []

def State.statusBody (s : State) : List Byte :=
  part 1 s.nodePart ++ part 2 s.link.part ++ part 3 s.holdPart ++
  s.rolePart .mud (part 4 s.mudPart ++ part 5 s.balancePart) ++
  s.rolePart .handler (part 6 s.handlerPart) ++
  s.rolePart .head (part 7 s.depthPart ++ part 8 s.logPart)

/-- STATUS (R173): taken in every node state; reading changes nothing. -/
def execStatus (s : State) : Host.Outcome State Fault Refusal := answered .status (okWith s.statusBody, s)

end Sys2Proof.Machine
end

