-- ==== Sys2Proof/Machine/Dispatch.lean ====
section
/-! DEFINITION. One arm per command: the one place that says which meaning a command has. -/

namespace Sys2Proof.Machine

def exec (i : Instr) (s : State) : Host.Outcome State Fault Refusal :=
  match i with
  | .powerOnReset memoryKept => Sys2Proof.Machine.execPowerOnReset memoryKept s
  | .requestDecode bytes => Sys2Proof.Machine.execRequestDecode bytes s
  | .responseRead clocked => Sys2Proof.Machine.execResponseRead clocked s
  | .status => Sys2Proof.Machine.execStatus s
  | .readAttention => Sys2Proof.Machine.execReadAttention s
  | .clearAttention causes => Sys2Proof.Machine.execClearAttention causes s
  | .readPeer station => Sys2Proof.Machine.execReadPeer station s
  | .hold => Sys2Proof.Machine.execHold s
  | .releaseHold reason => Sys2Proof.Machine.execReleaseHold reason s
  | .clearHold station => Sys2Proof.Machine.execClearHold station s
  | .sendDirective role code arg => Sys2Proof.Machine.execSendDirective role code arg s
  | .unmute => Sys2Proof.Machine.execUnmute s
  | .reset => Sys2Proof.Machine.execReset s
  | .configure group values => Sys2Proof.Machine.execConfigure group values s
  | .start => Sys2Proof.Machine.execStart s
  | .setClock day minute second => Sys2Proof.Machine.execSetClock day minute second s
  | .registerRod slot id kind length count => Sys2Proof.Machine.execRegisterRod slot id kind length count s
  | .unregisterRod slot => Sys2Proof.Machine.execUnregisterRod slot s
  | .appendString id kind length count => Sys2Proof.Machine.execAppendString id kind length count s
  | .setCarousel index => Sys2Proof.Machine.execSetCarousel index s
  | .correctTally offset => Sys2Proof.Machine.execCorrectTally offset s
  | .clearTally => Sys2Proof.Machine.execClearTally s
  | .readRack => Sys2Proof.Machine.execReadRack s
  | .readString => Sys2Proof.Machine.execReadString s
  | .makeup => Sys2Proof.Machine.execMakeup s
  | .breakout => Sys2Proof.Machine.execBreakout s
  | .tripIn count => Sys2Proof.Machine.execTripIn count s
  | .tripOut count => Sys2Proof.Machine.execTripOut count s
  | .stopTrip => Sys2Proof.Machine.execStopTrip s
  | .resume => Sys2Proof.Machine.execResume s
  | .retryStep => Sys2Proof.Machine.execRetryStep s
  | .abort => Sys2Proof.Machine.execAbort s
  | .resolveTransit destination slot => Sys2Proof.Machine.execResolveTransit destination slot s
  | .confirmRecovery => Sys2Proof.Machine.execConfirmRecovery s
  | .startPump pump => Sys2Proof.Machine.execStartPump pump s
  | .stopPump pump => Sys2Proof.Machine.execStopPump pump s
  | .unlock => Sys2Proof.Machine.execUnlock s
  | .confirmBled => Sys2Proof.Machine.execConfirmBled s
  | .addAdditive kind units => Sys2Proof.Machine.execAddAdditive kind units s
  | .newHole => Sys2Proof.Machine.execNewHole s
  | .setLithology lithology => Sys2Proof.Machine.execSetLithology lithology s
  | .addRemark code => Sys2Proof.Machine.execAddRemark code s
  | .markWater => Sys2Proof.Machine.execMarkWater s
  | .trim count => Sys2Proof.Machine.execTrim count s
  | .fetchRecord form sequence => Sys2Proof.Machine.execFetchRecord form sequence s
  | .readCursor => Sys2Proof.Machine.execReadCursor s
  | .verify => Sys2Proof.Machine.execVerify s
  | .openJob number => Sys2Proof.Machine.execOpenJob number s
  | .suspendJob => Sys2Proof.Machine.execSuspendJob s
  | .resumeJob => Sys2Proof.Machine.execResumeJob s
  | .closeJob => Sys2Proof.Machine.execCloseJob s
  | .fetchSummary => Sys2Proof.Machine.execFetchSummary s
  | .readMeters => Sys2Proof.Machine.execReadMeters s
  | .addCharge amount => Sys2Proof.Machine.execAddCharge amount s
  | .frameBegin => Sys2Proof.Machine.execFrameBegin s
  | .arbitrationLoss => Sys2Proof.Machine.execArbitrationLoss s
  | .bitFault => Sys2Proof.Machine.execBitFault s
  | .frameComplete => Sys2Proof.Machine.execFrameComplete s
  | .presenceReceived source content => Sys2Proof.Machine.execPresenceReceived source content s
  | .announcementReceived source content => Sys2Proof.Machine.execAnnouncementReceived source content s
  | .holdSetReceived source reason => Sys2Proof.Machine.execHoldSetReceived source reason s
  | .holdReleaseReceived source => Sys2Proof.Machine.execHoldReleaseReceived source s
  | .directiveReceived source directive => Sys2Proof.Machine.execDirectiveReceived source directive s
  | .frameReceiveError error => Sys2Proof.Machine.execFrameReceiveError error s
  | .stationClash => Sys2Proof.Machine.execStationClash s
  | .idleIntervalComplete => Sys2Proof.Machine.execIdleIntervalComplete s
  | .lineJammed => Sys2Proof.Machine.execLineJammed s
  | .sendPeriodExpiry => Sys2Proof.Machine.execSendPeriodExpiry s
  | .slotStale station slot => Sys2Proof.Machine.execSlotStale station slot s
  | .slotLost station slot => Sys2Proof.Machine.execSlotLost station slot s
  | .holdSilenceExpiry station => Sys2Proof.Machine.execHoldSilenceExpiry station s
  | .listenTimerExpiry => Sys2Proof.Machine.execListenTimerExpiry s
  | .timeBaseStep => Sys2Proof.Machine.execTimeBaseStep s
  | .clockSecond => Sys2Proof.Machine.execClockSecond s
  | .secondStep => Sys2Proof.Machine.execSecondStep s
  | .stepTimerExpiry => Sys2Proof.Machine.execStepTimerExpiry s
  | .pumpTimerExpiry pump => Sys2Proof.Machine.execPumpTimerExpiry pump s
  | .balancePeriodExpiry => Sys2Proof.Machine.execBalancePeriodExpiry s
  | .ropSampleExpiry => Sys2Proof.Machine.execRopSampleExpiry s
  | .rotationWaitExpiry => Sys2Proof.Machine.execRotationWaitExpiry s
  | .verifyScanStep => Sys2Proof.Machine.execVerifyScanStep s
  | .handlerInputChange input level => Sys2Proof.Machine.execHandlerInputChange input level s
  | .carouselPulse => Sys2Proof.Machine.execCarouselPulse s
  | .pumpRunningChange pump level => Sys2Proof.Machine.execPumpRunningChange pump level s
  | .returnPulse => Sys2Proof.Machine.execReturnPulse s
  | .strokePulse pump => Sys2Proof.Machine.execStrokePulse pump s
  | .waterPulse => Sys2Proof.Machine.execWaterPulse s
  | .rotationPulse => Sys2Proof.Machine.execRotationPulse s
  | .encoderLineChange a b => Sys2Proof.Machine.execEncoderLineChange a b s
  | .homeSwitchEdge closed => Sys2Proof.Machine.execHomeSwitchEdge closed s
  | .headDriveChange level => Sys2Proof.Machine.execHeadDriveChange level s
  | .pitLevelSample channel valid value => Sys2Proof.Machine.execPitLevelSample channel valid value s
  | .pressureSample valid value => Sys2Proof.Machine.execPressureSample valid value s
  | .dominantEdgeSeen => Sys2Proof.Machine.execDominantEdgeSeen s

end Sys2Proof.Machine
end

