-- ==== Sys2Proof/Machine/Step.lean ====
section
/-! DEFINITION. One step of the node: the command at the front of the queue, or, on an empty queue, one bit
time of the node's own time base (log 2). -/

namespace Sys2Proof.Machine

def step (s : State) : Host.Outcome State Fault Refusal :=
  match s.pending with
  | [] => .next s.idle
  | c :: rest => exec c { s with pending := rest }

/-- The command a table word spells put at the front of the queue; none of the rows has a word (log 30). -/
def State.withFetchWord (s : State) (nbits w : Nat) : State :=
  match decodeTableWord nbits w with
  | some c => { s with pending := c :: s.pending }
  | none => s

end Sys2Proof.Machine
end

