-- ==== Sys2Proof/Machine/Wire.lean ====
section
/-! DEFINITION. The rig link bit by bit and the sample port: the bits a node drives for a frame, with bit
stuffing and CRC (R19 to R22), the comparison of each bit with the level read back (R29 to R31), the receiver
that finds the first receive error (R25), and the 24-bit sample frame (R174). `State.sentRow`, `received` and
`sampled` say which command row a run of levels is. -/

namespace Sys2Proof.Machine

/-! ### Sending -/

/-- The header byte pair of the CRC followed by the payload (R21). -/
def crcInput (source : Station) (kind : Nat) (bs : List Byte) : List Byte :=
  BitVec.ofNat 8 (kind * 16 + source.val * 2) :: BitVec.ofNat 8 bs.length :: bs

/-- The stuffed part before stuffing: start bit, kind, source, length, payload, CRC (R20). -/
def frameBits (source : Station) (f : Frame) : List Level :=
  false :: (bitsOf 4 (frameKind f) ++ bitsOf 3 source.val ++ bitsOf 6 (payload f).length ++
    (payload f).flatMap (fun b => bitsOf 8 b.toNat) ++
    bitsOf 16 (crc (crcInput source (frameKind f) (payload f))).toNat)

/-- After every five equal bits one bit of the opposite level, which begins the next run (R19). `last` and
`run` are the level and length of the run before the list. -/
def stuffFrom (last : Level) (run : Nat) : List Level → List Level
  | [] => []
  | b :: bs =>
    if b = last ∧ run = 4 then b :: (!b) :: stuffFrom (!b) 1 bs
    else b :: stuffFrom b (if b = last then run + 1 else 1) bs

def stuff (bits : List Level) : List Level := stuffFrom true 0 bits

/-- The bits a node drives for a frame, from start bit to end delimiter (R19, R20). -/
def lineBits (source : Station) (f : Frame) : List Level :=
  stuff (frameBits source f) ++ List.replicate 8 true

/-! ### Reading back (R29 to R31) -/

/-- What a driven bit is in its frame: the arbitration field is the first seven bits after the start bit,
inserted bits apart (R20, R29). -/
inductive BitPart where
  | start | arbitration | content | stuff | delimiter
  deriving DecidableEq, Repr

/-- The parts of the bits before stuffing, by place. -/
def bitParts : List BitPart := .start :: List.replicate 7 .arbitration

/-- The bits before stuffing with their parts; all after the arbitration field are content. -/
def markedBits (parts : List BitPart) : List Level → List (Level × BitPart)
  | [] => []
  | b :: bs => (b, parts.headD .content) :: markedBits parts.tail bs

/-- `stuffFrom` on marked bits: an inserted bit is a stuff bit. -/
def stuffMarked (last : Level) (run : Nat) : List (Level × BitPart) → List (Level × BitPart)
  | [] => []
  | (b, p) :: bs =>
    if b = last ∧ run = 4 then (b, p) :: (!b, .stuff) :: stuffMarked (!b) 1 bs
    else (b, p) :: stuffMarked b (if b = last then run + 1 else 1) bs

/-- The bits of `lineBits`, each with its part. -/
def drivenBits (source : Station) (f : Frame) : List (Level × BitPart) :=
  stuffMarked true 0 (markedBits bitParts (frameBits source f)) ++ List.replicate 8 (true, .delimiter)

/-- What reading back one bit gives (R29, R30). -/
inductive ReadBack where
  | agrees | arbitrationLoss | bitFault
  deriving DecidableEq, Repr

/-- Only a recessive bit of the arbitration field read back dominant is an arbitration loss; every other
mismatch, a stuff bit's included, is a bit fault (R29, R30). -/
def readBack (part : BitPart) (sent read : Level) : ReadBack :=
  if read = sent then .agrees
  else if part = .arbitration ∧ sent = true then .arbitrationLoss
  else .bitFault

/-- The command row that a transmission comes to: the first mismatch, or completion once the last bit has been
read back as sent (R29 to R31); none while the line has not been read to either. -/
def sentRow : List (Level × BitPart) → List Level → Option Instr
  | [], _ => some .frameComplete
  | _ :: _, [] => none
  | (sent, part) :: bits, read :: levels =>
    match readBack part sent read with
    | .agrees => sentRow bits levels
    | .arbitrationLoss => some .arbitrationLoss
    | .bitFault => some .bitFault

/-- The row that the levels read back make of the frame in transmission, while this node is OWNER. -/
def State.sentRow (s : State) (levels : List Level) : Option Instr :=
  match s.link.line, s.link.sending, s.station with
  | .owner, some f, some own => Machine.sentRow (drivenBits own f) levels
  | _, _, _ => none

/-! ### Receiving (R25) -/

/-- Where a receiver stands in the stuffed part: the run before the next bit and the bits to come. -/
structure Reader where
  last : Level
  run : Nat
  rest : List Level
  deriving DecidableEq, Repr

/-- What reading some bits gives: a value, a stuff violation, or the end of the bits. -/
inductive Got (α : Type) where
  | got (value : α) (reader : Reader)
  | violation
  | ended
  deriving DecidableEq, Repr

/-- The reader after an inserted bit that is due, which must be of the opposite level. -/
def Reader.unstuff (r : Reader) : Got Unit :=
  if r.run = 5 then
    match r.rest with
    | [] => .ended
    | b :: bs => if b = r.last then .violation else .got () ⟨b, 1, bs⟩
  else .got () r

/-- One bit of the frame, after any inserted bit before it. -/
def Reader.bit (r : Reader) : Got Level :=
  match r.unstuff with
  | .got _ r =>
    match r.rest with
    | [] => .ended
    | b :: bs => .got b ⟨b, if b = r.last then r.run + 1 else 1, bs⟩
  | .violation => .violation
  | .ended => .ended

/-- A field of `n` bits, most significant first, read onto `acc`. -/
def Reader.field (acc : Nat) : Nat → Reader → Got Nat
  | 0, r => .got acc r
  | n + 1, r =>
    match r.bit with
    | .got b r => Reader.field (acc * 2 + b.toNat) n r
    | .violation => .violation
    | .ended => .ended

/-- `n` payload bytes. -/
def Reader.bytes : Nat → Reader → Got (List Byte)
  | 0, r => .got [] r
  | n + 1, r =>
    match Reader.field 0 8 r with
    | .got v r =>
      match Reader.bytes n r with
      | .got vs r => .got (BitVec.ofNat 8 v :: vs) r
      | .violation => .violation
      | .ended => .ended
    | .violation => .violation
    | .ended => .ended

/-- What a run of bits from a start bit on is to a receiver. -/
inductive Reception where
  | valid (source : Station) (kind : Nat) (bytes : List Byte)
  | error (e : ReceiveError)
  /-- The bits end before the frame does. -/
  | incomplete
  deriving DecidableEq, Repr

/-- The end delimiter: eight recessive bits. -/
def delimited : Nat → List Level → Reception → Reception
  | 0, _, ok => ok
  | _ + 1, [], _ => .incomplete
  | n + 1, b :: bs, ok => if b then delimited n bs ok else .error .missingDelimiter

/-- CRC and end delimiter, after the payload. -/
def receiveTail (source : Station) (kind : Nat) (bytes : List Byte) (r : Reader) : Reception :=
  match Reader.field 0 16 r with
  | .got v r =>
    if v = (crc (crcInput source kind bytes)).toNat then
      match r.unstuff with
      | .got _ r => delimited 8 r.rest (.valid source kind bytes)
      | .violation => .error .stuffViolation
      | .ended => .incomplete
    else .error .badCrc
  | .violation => .error .stuffViolation
  | .ended => .incomplete

/-- Source, length and payload, after the kind. -/
def receiveBody (kind : Nat) (r : Reader) : Reception :=
  match Reader.field 0 3 r with
  | .got source r =>
    match Reader.field 0 6 r with
    | .got length r =>
      if 48 < length then .error .lengthAbove48
      else if !lengthAllowed kind length then .error .lengthNotAllowed
      else
        match Reader.bytes length r with
        | .got bytes r => receiveTail (Fin.ofNat 8 source) kind bytes r
        | .violation => .error .stuffViolation
        | .ended => .incomplete
    | .violation => .error .stuffViolation
    | .ended => .incomplete
  | .violation => .error .stuffViolation
  | .ended => .incomplete

/-- A frame from its start bit on, discarded at the first receive error it meets (R25). -/
def receive (bits : List Level) : Reception :=
  match Reader.field 0 5 ⟨true, 0, bits⟩ with
  | .got kind r => if 8 ≤ kind then .error .unknownKind else receiveBody kind r
  | .violation => .error .stuffViolation
  | .ended => .incomplete

/-- The command row that a frame from a station is (R26). -/
def frameRow (source : Station) : Frame → Instr
  | .holdSet reason => .holdSetReceived source reason
  | .holdRelease => .holdReleaseReceived source
  | .directive d => .directiveReceived source d
  | .announce a => .announcementReceived source a
  | .presence p => .presenceReceived source p

/-- The command row that a run of line bits is, if its frame is complete or in error. -/
def received (bits : List Level) : Option Instr :=
  match receive bits with
  | .valid source kind bytes => (frameOf kind bytes).map (frameRow source)
  | .error e => some (.frameReceiveError e)
  | .incomplete => none

/-! ### The sample port (R174) -/

/-- The number that a list of levels spells, most significant first. -/
def numOfBits (bits : List Level) : Nat := bits.foldl (fun acc b => acc * 2 + b.toNat) 0

/-- The command row that a sample frame is: fewer than 24 bits, or a channel of 5 to 7, is discarded. -/
def sampled (bits : List Level) : Option Instr :=
  if bits.length < 24 then none
  else
    let head := numOfBits (bits.take 8)
    let valid := head.testBit 7
    let value := BitVec.ofNat 16 (numOfBits ((bits.drop 8).take 16))
    let channel := head % 8
    if h : channel < 4 then some (.pitLevelSample ⟨channel, h⟩ valid value)
    else if channel = 4 then some (.pressureSample valid value)
    else none

end Sys2Proof.Machine
end

