-- ==== Sys2Proof/Safety.lean ====
section
/-! DEFINITION. The vocabulary of claims: the role a request belongs to, the state after an answered request,
and the invariants of the node's blocks that the manual states or that its rules keep. -/

namespace Sys2Proof.Machine

/-! ### Requests (R2, section 11.4) -/

/-- The role whose request a command is; none for common requests and for events. -/
def requestRole : Instr → Option Role
  | .registerRod .. | .unregisterRod _ | .appendString .. | .setCarousel _ | .correctTally _
  | .clearTally | .readRack | .readString | .makeup | .breakout | .tripIn _ | .tripOut _ | .stopTrip
  | .resume | .retryStep | .abort | .resolveTransit .. | .confirmRecovery => some .handler
  | .startPump _ | .stopPump _ | .unlock | .confirmBled | .addAdditive .. => some .mud
  | .newHole | .setLithology _ | .addRemark _ | .markWater | .trim _ | .fetchRecord .. | .readCursor
  | .verify => some .head
  | .openJob _ | .suspendJob | .resumeJob | .closeJob | .fetchSummary | .readMeters
  | .addCharge _ => some .cab
  | _ => none

/-- The role requests that are served in every node state (R67, R143, R151). -/
def servedAlways : Instr → Bool
  | .readRack | .readString | .fetchRecord .. | .readCursor | .fetchSummary | .readMeters => true
  | _ => false

/-- A state with a request's reply in place, all else unchanged. -/
def State.replied (s : State) (i : Instr) (r : Reply) : State := { s with port := s.port.finish i r }

/-- The number of a pump in a request (R92). -/
def pumpNumber : Pump → Byte
  | .one => 1#8
  | .two => 2#8

/-- What a state is to a receiver whose frame has ended (R25). -/
def State.receiverDone (s : State) : State := { s with link := { s.link with receiving := false } }

/-- A level change of an encoder line in the upward sense (R121, log 12): the line that leads in the free
sense changes to differ from the other, or the other changes to follow it. -/
def upSense (s : State) (a b : Level) : Bool := upward s.pins.upSense s.pins.encA s.pins.encB a b

/-! ### Invariants -/

/-- B equals the sum of the ring's slots (R114). -/
abbrev Balance.sumKept (b : Balance) : Prop := b.sum = (b.window.toList.map (·.value)).sum

/-- The residues of R112 in their ranges. -/
abbrev Balance.residuesKept (b : Balance) : Prop :=
  b.steelResidue.natAbs < 100 ∧ 0 ≤ b.holeResidue ∧ b.holeResidue < 100

/-- The ranges of the totals and the imbalance (R113, R117). -/
abbrev Balance.inRange (b : Balance) : Prop :=
  b.gainTotal ≤ Config.totalLimit ∧ b.lossTotal ≤ Config.totalLimit ∧
  b.last.natAbs ≤ 2000000000 ∧ ∀ w ∈ b.window.toList, w.value.natAbs ≤ 2000000000

/-- No pump is engaged while STOPPED or LOCKED, and none is STARTING or RUNNING while BLEEDING (R94). -/
abbrev Circulation.lockSafe (c : Circulation) : Prop :=
  (c.state = .stopped ∨ c.state = .locked → c.anyPump PumpState.engaged = false) ∧
  (c.state = .bleeding → c.anyPump PumpState.permitted = false)

/-- The job total is the sum of the other seventeen accumulators, and none passes the limit (R160). -/
abbrev JobRecord.totalKept (j : JobRecord) : Prop :=
  j.total.mills = ((j.accumulators.toList.take 17).map (·.mills)).sum ∧
  ∀ a ∈ j.accumulators.toList, a.mills ≤ Config.accLimit

/-- The residues of R155 and R157 in their ranges. -/
abbrev JobRecord.residuesKept (j : JobRecord) : Prop :=
  (∀ r ∈ j.timeResidues.toList, r < 921600) ∧ ∀ r ∈ j.bandResidues.toList, r < 256

/-- The numbers stored form one contiguous run of at most 400 that ends just below the open interval's, and
no number passes 32 bits (R141). -/
abbrev StrataLog.contiguous (g : StrataLog) : Prop :=
  g.store.map (·.sequence) =
    List.range' (g.current.sequence - g.store.length) g.store.length ∧
  g.store.length ≤ Config.storeCapacity ∧ g.store.length < g.current.sequence ∧
  g.current.sequence ≤ max32

/-- All rod IDs held, place by place. -/
def Inventory.ids (v : Inventory) : List Nat :=
  v.rack.toList.filterMap (Option.map (·.id)) ++ v.string.map (·.id) ++
  (v.transit.map (·.id)).toList

/-- No rod ID is held twice (R57). -/
abbrev Inventory.idsUnique (v : Inventory) : Prop := v.ids.Nodup

/-- An empty string has no tally correction, and no string has more than 160 entries (R56, R65). -/
abbrev Inventory.stringKept (v : Inventory) : Prop :=
  (v.string = [] → v.tally = 0 ∧ v.adjusted = false) ∧ v.string.length ≤ Config.stringCapacity ∧
  v.tally.natAbs ≤ 500

/-- The link's counts within their ranges (R25, R32, R38). -/
abbrev Link.countsKept (k : Link) : Prop :=
  k.faultCount ≤ Config.faultLimit ∧ k.errorCount ≤ 255 ∧ k.queue.length ≤ Config.queueCapacity

/-- A frame is in transmission exactly in line state OWNER (R23, R28). -/
abbrev Link.owned (k : Link) : Prop := k.line = .owner ↔ k.sending.isSome = true

/-- The sequencer has a step and a fixed slot exactly outside IDLE (R69). -/
abbrev Sequencer.stepKept (q : Sequencer) : Prop :=
  (q.state = .idle ↔ q.step = none) ∧ (q.state = .idle ↔ q.slot = none) ∧
  (q.state = .faulted ↔ q.fault.isSome = true) ∧ (q.state = .idle → q.kind = .none)

/-- While a cycle is under way the cycle marker stands as the cycle does (R86). -/
abbrev State.markerKept (s : State) : Prop :=
  s.seq.state = .active ∨ s.seq.state = .faulted ∨ s.seq.state = .transitHeld →
    s.seq.marker.map (·.kind) = some s.seq.kind ∧ s.seq.marker.map (·.step) = s.seq.step ∧
    s.seq.marker.map (·.state) = some s.seq.state ∧ s.seq.marker.map (·.slot) = s.seq.slot ∧
    s.seq.marker.bind (·.rod) = s.inventory.transit.map (·.id)

/-- No step whose condition holds is still current: entry checks and input changes have been taken (R70). -/
abbrev State.stepsTaken (s : State) : Prop :=
  s.acts .handler = true → s.seq.state = .active → s.stepCondition = false

end Sys2Proof.Machine
end

