-- ==== Sys2Proof/Certificates/Slice0/Obligations.lean ====
section
/-! DEFINITION. The statements for the provers. Each docstring names the rules whose content it states and
the log entry of whatever is the model's own choice. -/

open Sys2Proof Sys2Proof.Machine

/-! ### The step -/

/-- The block's form of "a step runs the decoded command": the command at the front of the queue is run on
the state with the queue's rest. -/
def Obligations.StepRunsTheFrontCommand : Prop :=
  ∀ (c : Instr) (rest : List Instr) (s : State),
    step { s with pending := c :: rest } = exec c { s with pending := rest }

/-- On an empty queue one bit time passes, the ages grow at each 10 ms, what is due is queued, and behind it
the oldest request taken (the model's choice, log 2, 3 and 6). Due is a timed row exactly when its time has come:
an age of 1,500 or 10,000 ms (R5, R47), the last step of a running step or pump timer (R76, R91), the instant
of a running period (R35, R108, R129, R144, R154, R175, R179), one second after a rotation pulse (R128), an
idle line with a send pending (R28). -/
def Obligations.EmptyQueueLetsABitTimePass : Prop :=
  (∀ s : State, s.pending = [] →
    step s = .next { s.bitTime with pending := s.bitTime.dueEvents ++ s.port.taken.take 1 } ∧
    (s.time.sub < 12500 → s.bitTime.time = ⟨s.time.tenths, s.time.sub + 1⟩) ∧
    (12500 ≤ s.time.sub → s.bitTime = s) ∧
    (s.time.sub < 12500 → (s.time.sub + 1) % 1250 = 0 →
      s.bitTime.peers = s.peers.map (PeerEntry.aged 1) ∧
      s.bitTime.holds.others = s.holds.others.map (Option.map (HoldEntry.aged 1))) ∧
    (s.time.sub < 12500 → (s.time.sub + 1) % 1250 ≠ 0 →
      s.bitTime.peers = s.peers ∧ s.bitTime.holds = s.holds) ∧
    s.bitTime = { s with
      time := s.bitTime.time, peers := s.bitTime.peers
      holds := { s.holds with others := s.bitTime.holds.others } }) ∧
  ∀ s : State,
    let due (c : Instr) : Prop := c ∈ s.dueEvents
    let passed (deadline : Option Nat) : Prop := ∃ t, deadline = some t ∧ t ≤ s.now
    let periods : List (Instr × Option Nat) :=
      [(.clockSecond, s.timers.clock), (.sendPeriodExpiry, s.timers.send),
       (.listenTimerExpiry, s.timers.listen), (.balancePeriodExpiry, s.timers.balance),
       (.ropSampleExpiry, s.timers.rop), (.secondStep, s.timers.second), (.verifyScanStep, s.timers.scan)]
    (due .timeBaseStep ↔ 12500 ≤ s.time.sub) ∧
    (due .stepTimerExpiry ↔ 12500 ≤ s.time.sub ∧ s.stepTimerRuns = true ∧ s.seq.timer ≤ 1) ∧
    (∀ p, due (.pumpTimerExpiry p) ↔ 12500 ≤ s.time.sub ∧ s.acts .mud = true ∧
      ((s.circ.pump p).state = .starting ∨ (s.circ.pump p).state = .stopping) ∧
      (s.circ.pump p).timer ≤ 1) ∧
    (∀ st n, due (.slotStale st n) ↔ s.peers[st].freshness n = .fresh ∧ 150 ≤ s.peers[st].age n) ∧
    (∀ st n, due (.slotLost st n) ↔ s.peers[st].freshness n = .stale ∧ 1000 ≤ s.peers[st].age n) ∧
    (∀ st, due (.holdSilenceExpiry st) ↔ (∃ e, s.holds.others[st] = some e ∧ e.state = .active ∧
      1000 ≤ e.silence) ∧
      (s.peers[st].presence.freshness = .unheard ∨ s.peers[st].presence.freshness = .lost)) ∧
    (∀ p ∈ periods, due p.1 ↔ passed p.2) ∧
    (due .rotationWaitExpiry ↔ s.acts .head = true ∧
      ∃ r, s.depth.rotation = some r ∧ r + 125000 ≤ s.now) ∧
    (due .frameBegin ↔ s.link.line = .idle ∧ s.link.mute = none ∧ s.station ≠ none ∧
      ((s.node.state = .listen ∧ s.link.due.presence = true) ∨
        (s.node.state = .running ∧
          (s.link.holdFrame ≠ none ∨ s.link.queue ≠ [] ∨ s.link.due ≠ .none)))) ∧
    (∀ c, due c → c = .timeBaseStep ∨ c = .stepTimerExpiry ∨ (∃ p, c = .pumpTimerExpiry p) ∨
      (∃ st n, c = .slotStale st n ∨ c = .slotLost st n) ∨ (∃ st, c = .holdSilenceExpiry st) ∨
      (∃ p ∈ periods, c = p.1) ∨ c = .rotationWaitExpiry ∨ c = .frameBegin)

/-- No command stops the node, and none touches the commands that wait. -/
def Obligations.EveryCommandHasANextState : Prop :=
  ∀ (c : Instr) (s : State), ∃ t, exec c s = .next t ∧ t.pending = s.pending

/-- The reset values the manual gives (R17, R40, R41, R42, R68, R89, R104, R119, R131, R134, R146, R163, R165,
R167, R175, R179, R181), at State.reset, which stands for a power-on that finds the marker invalid (the
model's choice, log 9): every value of the reset tables, the stopped periods and timers among them. -/
def Obligations.ResetLeavesTheStatedValues : Prop :=
  let s := State.reset
  (s.node.state = .config ∧ s.node.node = none ∧ s.node.mud = none ∧ s.node.handler = none ∧
    s.node.head = none ∧ s.node.cab = none ∧ s.node.yielded = .empty ∧ s.node.epoch = 0#16) ∧
  (s.clock.time = none ∧ s.causes = causeBit .retainedLost ∧ s.port.status = .noRequest ∧
    s.port.body = [] ∧ s.port.readPos = 0) ∧
  (s.timers.listen = none ∧ s.timers.send = none ∧ s.timers.balance = none ∧ s.timers.rop = none ∧
    s.timers.second = none ∧ s.timers.scan = none ∧ s.timers.clock = none) ∧
  (∀ st : Station, s.peers[st] = ⟨.unheard, .unheard, .unheard, .unheard, .unheard⟩) ∧
  (∀ r : Role, s.owner r = none) ∧
  (s.link.line = .unknown ∧ s.link.receiving = false ∧ s.link.sending = none ∧ s.link.mute = none ∧
    s.link.faultCount = 0 ∧ s.link.errorCount = 0 ∧ s.link.queue = [] ∧ s.link.holdFrame = none ∧
    s.link.holdWaiting = none ∧ s.link.due = .none) ∧
  (s.directives.mud = none ∧ s.directives.handler = none ∧ s.directives.head = none) ∧
  (s.held = false ∧ s.holds.reasons = .empty ∧ ∀ st : Station, s.holds.others[st] = none) ∧
  ((∀ i : RackSlot, s.inventory.rack[i] = none) ∧ s.inventory.string = [] ∧
    s.inventory.transit = none ∧ s.inventory.tally = 0 ∧ s.inventory.adjusted = false ∧
    s.inventory.carousel = 0) ∧
  (s.seq.state = .idle ∧ s.seq.kind = .none ∧ s.seq.step = none ∧ s.seq.slot = none ∧
    s.seq.fault = none ∧ s.seq.plan.remaining = 0 ∧ s.seq.plan.faultPause = false ∧
    s.seq.plan.holdPause = false ∧ s.seq.plan.endCause = none ∧ s.seq.lockedMark = false ∧
    s.seq.marker = none ∧ s.seq.makeups = 0 ∧ s.seq.breakouts = 0 ∧ s.stepTimerRuns = false ∧
    s.breakoutPermit = false) ∧
  (∀ p : Pump, (s.circ.pump p).state = .off ∧ (s.circ.pump p).seconds = 0 ∧ (s.circ.pump p).tenths = 0 ∧
    s.pumpTimerRuns p = false ∧ s.pumpPermit p = false) ∧
  (s.circ.state = .stopped ∧ s.circ.bled = 0 ∧
    s.circ.absent = 0 ∧ s.circ.returnsAbsent = false ∧ s.circ.pressure = 0 ∧ s.circ.heldSamples = 5 ∧
    s.circ.returns = 0 ∧ s.circ.strokes1 = 0 ∧ s.circ.strokes2 = 0 ∧ s.circ.flowIn = 0 ∧
    s.circ.additives = Vector.replicate 4 0 ∧ s.suctionVolume = none ∧ s.suctionLow = false) ∧
  ((∀ i : Fin 4, s.bal.pits[i] = ⟨none, true, false, none⟩) ∧ s.bal.prevD = 0 ∧ s.bal.prevH = 0 ∧
    s.bal.depthHeld = true ∧ s.bal.steelResidue = 0 ∧ s.bal.holeResidue = 0 ∧ s.bal.water = 0 ∧
    s.bal.window = Vector.replicate 15 ⟨0, false⟩ ∧ s.bal.position = 0 ∧ s.bal.sum = 0 ∧
    s.bal.degradedCount = 0 ∧ s.totalVolume = 0 ∧
    s.bal.underlying = .normal ∧ s.bal.announced = .normal ∧ s.bal.gainTotal = 0 ∧ s.bal.lossTotal = 0) ∧
  (s.depth.tracking = .unhomed ∧ s.depth.count = 0 ∧ s.headHeight = 0 ∧ s.depth.d = 0 ∧ s.depth.dmax = 0 ∧
    s.depth.advance = 0 ∧ s.depth.jumpHeld = false ∧ s.depth.driveRise = none ∧
    s.depth.rotation = none ∧ s.depth.onBottom = false ∧ s.depth.filled = 0 ∧ s.depth.rop = 0 ∧
    s.depth.footage = Vector.replicate 4 0) ∧
  (s.log.store = [] ∧ s.log.current.sequence = 1 ∧ s.log.current.top = 0 ∧
    s.log.current.gridBase = 0 ∧ s.log.current.lithology = .topsoil ∧ s.log.current.jobNumber = 0 ∧
    s.log.current.openTime = none ∧ s.log.current.bottomSeconds = 0 ∧ s.log.current.bottomTenths = 0 ∧
    s.log.current.revolutions = 0 ∧ s.log.current.baseline = none ∧ s.log.current.flags = .none ∧
    s.log.current.remarks = [] ∧ s.log.current.lower = none ∧ s.log.cursor = 1 ∧
    s.log.latch = false ∧ s.log.scan.state = .none ∧ s.log.discards = 0 ∧ s.log.kept = none ∧
    s.log.onBottom = false) ∧
  (s.meter.job.state = .noJob ∧ s.meter.job.number = none ∧ s.meter.job.openTime = none ∧
    s.meter.job.closeTime = none ∧ s.meter.job.summaryRead = false ∧
    s.meter.job.accumulators = Vector.replicate 18 ⟨0, false⟩ ∧
    s.meter.job.quantities = Vector.replicate 17 0 ∧ s.meter.job.timeResidues = Vector.replicate 7 0 ∧
    s.meter.job.bandResidues = Vector.replicate 4 0 ∧ s.meter.job.baselines = Vector.replicate 9 none ∧
    s.meter.job.flags = ⟨false, false, false, false⟩)

/-! ### The station port (chapter 11) -/

/-- The checks on every request of a role, before every other refusal (R2); then BAD_STATE outside RUNNING, but
for the read-outs that are served in every node state (R61, R67, R74, R92, R104, R127, R143, R146, R151, R162). -/
def Obligations.RoleRequestsAreChecked : Prop :=
  ∀ (c : Instr) (r : Role) (s : State), requestRole c = some r →
    (s.holdsRole r = false → exec c s = .next (s.replied c ⟨.notRole, []⟩)) ∧
    (s.holdsRole r = true → s.yields r = true → exec c s = .next (s.replied c ⟨.roleYielded, []⟩)) ∧
    (s.active r = true → servedAlways c = false → s.node.state ≠ .running →
      exec c s = .next (s.replied c ⟨.badState, []⟩))

/-- REQUEST_DECODE: the table of R164, case by case. A transaction whose first byte is 0x00 is a response
read (R164), one without a whole byte changes nothing. The tables of section 11.4 are stated whole: `lengths`
has the least and greatest body length of each group of command codes, and the fields of each body are read in
the order of its rule, high byte first (R170). -/
def Obligations.RequestDecodeFollowsItsTable : Prop :=
  ∀ (command : Byte) (rest : List Byte) (s : State),
    let status := BitVec.ofNat 8 (statusCode s.port.status)
    let discarded (r : Reply) : State := { s with port := { s.port with
      status := r.status, body := r.body, readPos := 0
      out := status :: List.replicate rest.length 0#8 } }
    let lengths : List (Nat × Nat × List Nat) := [
      (0, 0, [0x01, 0x02, 0x05, 0x09, 0x0A, 0x0C, 0x25, 0x26, 0x27, 0x28, 0x29, 0x2C, 0x2D, 0x2E, 0x2F, 0x31,
        0x42, 0x43, 0x50, 0x53, 0x56, 0x57, 0x61, 0x62, 0x63, 0x64, 0x65]),
      (1, 1, [0x04, 0x06, 0x07, 0x21, 0x23, 0x2A, 0x2B, 0x40, 0x41, 0x51, 0x52]),
      (2, 2, [0x24, 0x30, 0x54, 0x60]), (3, 3, [0x44]), (4, 4, [0x03, 0x66]), (5, 5, [0x0D, 0x55]),
      (7, 7, [0x22]), (8, 8, [0x20]), (2, 6, [0x08]), (1, 66, [0x0B])]
    (∀ l ∈ lengths, ∀ code ∈ l.2.2, bodyLengths code = some (l.1, l.2.1)) ∧
    (∀ code, (∀ l ∈ lengths, code ∉ l.2.2) → bodyLengths code = none) ∧
    (∀ p ∈ [(0x01, Instr.status), (0x02, .readAttention), (0x05, .hold), (0x09, .unmute), (0x0A, .reset),
        (0x0C, .start), (0x25, .clearTally), (0x26, .readRack), (0x27, .readString), (0x28, .makeup),
        (0x29, .breakout), (0x2C, .stopTrip), (0x2D, .resume), (0x2E, .retryStep), (0x2F, .abort),
        (0x31, .confirmRecovery), (0x42, .unlock), (0x43, .confirmBled), (0x50, .newHole),
        (0x53, .markWater), (0x56, .readCursor), (0x57, .verify), (0x61, .suspendJob), (0x62, .resumeJob),
        (0x63, .closeJob), (0x64, .fetchSummary), (0x65, .readMeters)],
      requestOf p.1 [] = some p.2) ∧
    (∀ (a b c d e f g h : Byte) (more : List Byte),
      (∀ p ∈ [(0x04, Instr.readPeer), (0x06, .releaseHold), (0x07, .clearHold), (0x21, .unregisterRod),
          (0x23, .setCarousel), (0x2A, .tripIn), (0x2B, .tripOut), (0x40, .startPump), (0x41, .stopPump),
          (0x51, .setLithology), (0x52, .addRemark)],
        requestOf p.1 [a] = some (p.2 a)) ∧
      requestOf 0x24 [a, b] = some (.correctTally (a ++ b)) ∧
      requestOf 0x30 [a, b] = some (.resolveTransit a b) ∧
      requestOf 0x54 [a, b] = some (.trim (a ++ b)) ∧
      requestOf 0x60 [a, b] = some (.openJob (a ++ b)) ∧
      requestOf 0x44 [a, b, c] = some (.addAdditive a (b ++ c)) ∧
      requestOf 0x03 [a, b, c, d] = some (.clearAttention (a ++ b ++ c ++ d)) ∧
      requestOf 0x66 [a, b, c, d] = some (.addCharge (a ++ b ++ c ++ d)) ∧
      requestOf 0x0D [a, b, c, d, e] = some (.setClock (a ++ b) (c ++ d) e) ∧
      requestOf 0x55 [a, b, c, d, e] = some (.fetchRecord a (b ++ c ++ d ++ e)) ∧
      requestOf 0x22 [a, b, c, d, e, f, g] = some (.appendString (a ++ b) c (d ++ e) (f ++ g)) ∧
      requestOf 0x20 [a, b, c, d, e, f, g, h] = some (.registerRod a (b ++ c) d (e ++ f) (g ++ h)) ∧
      requestOf 0x08 (a :: b :: more) = some (.sendDirective a b more) ∧
      requestOf 0x0B (a :: more) = some (.configure a more)) ∧
    exec (.requestDecode []) s = .next s ∧
    (command = 0#8 →
      exec (.requestDecode (command :: rest)) s = exec (.responseRead (rest.length + 1)) s) ∧
    (command ≠ 0#8 → bodyLengths command.toNat = none →
      exec (.requestDecode (command :: rest)) s = .next (discarded ⟨.unknown, []⟩)) ∧
    ∀ least most, command ≠ 0#8 → bodyLengths command.toNat = some (least, most) →
      (rest = [] → exec (.requestDecode (command :: rest)) s = .next (discarded ⟨.truncated, []⟩)) ∧
      ∀ length body, rest = length :: body →
        (body.length < length.toNat →
          exec (.requestDecode (command :: rest)) s = .next (discarded ⟨.truncated, []⟩)) ∧
        (length.toNat ≤ body.length → 66 < length.toNat ∨ length.toNat < least ∨ most < length.toNat →
          exec (.requestDecode (command :: rest)) s = .next (discarded ⟨.badValue, [0#8]⟩)) ∧
        (length.toNat ≤ body.length → length.toNat ≤ 66 → least ≤ length.toNat → length.toNat ≤ most →
          ∃ i, requestOf command.toNat (body.take length.toNat) = some i ∧
            exec (.requestDecode (command :: rest)) s = .next { s with port :=
              { status := .pending, body := [], readPos := 0, taken := s.port.taken ++ [i]
                out := status :: List.replicate rest.length 0#8 } })

/-- RESPONSE_READ (R165): the status byte, then the body from the read position, then zeros; each body byte
sent moves the read position on. Where an answer goes (R164): into the buffer for the request last decoded, while
the buffer waits on it, and nowhere for an earlier one; a request commanded without a REQUEST_DECODE before it
is answered in the buffer (the model's choice, log 6). -/
def Obligations.ResponsesAreFilledAndRead : Prop :=
  ∀ (n : Nat) (i : Instr) (r : Reply) (s : State),
    let p := s.port
    let body := be 2 p.body.length ++ p.body
    let exists_ := p.status ≠ .pending ∧ p.status ≠ .unknown ∧ p.status ≠ .truncated ∧
      p.status ≠ .noRequest
    let status := BitVec.ofNat 8 (statusCode p.status)
    exec (.responseRead 0) s = .next s ∧
    (exists_ → exec (.responseRead (n + 1)) s = .next { s with port := { p with
      readPos := p.readPos + min n (body.length - p.readPos)
      out := status :: ((body.drop p.readPos).take n ++
        List.replicate (n - (body.length - p.readPos)) 0#8) } }) ∧
    (¬ exists_ → exec (.responseRead (n + 1)) s = .next { s with port := { p with
      out := status :: List.replicate n 0#8 } }) ∧
    (i ∉ p.taken → p.finish i r = { p with status := r.status, body := r.body, readPos := 0 }) ∧
    (∀ earlier, p.taken = earlier ++ [i] → i ∉ earlier → p.status = .pending →
      p.finish i r = { p with taken := earlier, status := r.status, body := r.body, readPos := 0 }) ∧
    (i ∈ p.taken → p.status ≠ .pending ∨ i ∈ p.taken.dropLast →
      p.finish i r = { p with taken := p.taken.erase i })

/-- READ_ATTENTION and CLEAR_ATTENTION (R167, R168). -/
def Obligations.AttentionCausesAreReadAndCleared : Prop :=
  ∀ (named : BitVec 32) (s : State),
    exec .readAttention s =
      .next (s.replied .readAttention ⟨.ok, be 4 s.causes.toNat ++ be 4 s.mask.toNat⟩) ∧
    ((∃ i, 18 ≤ i ∧ named.getLsbD i = true) →
      exec (.clearAttention named) s = .next (s.replied (.clearAttention named) ⟨.badValue, [1#8]⟩)) ∧
    ((∀ i, 18 ≤ i → named.getLsbD i = false) →
      ∃ left : BitVec 32,
        (∀ i, left.getLsbD i = (s.causes.getLsbD i && (!named.getLsbD i || i == 15))) ∧
        exec (.clearAttention named) s =
          .next (State.replied { s with causes := left } (.clearAttention named)
            ⟨.ok, be 4 left.toNat⟩))

/-- ATTN_N and ALARM (R169): functions of the state as it stands, so they change with it. The mask is the
configured one, all eighteen causes without one (R167). -/
def Obligations.LinesFollowTheCauses : Prop :=
  ∀ s : State,
    (s.attentionLine = true ↔ ∃ i, s.causes.getLsbD i = true ∧ s.mask.getLsbD i = true) ∧
    (∀ c, s.node.node = some c → s.mask = c.mask) ∧
    (s.node.node = none → ∀ i, s.mask.getLsbD i = decide (i < 18)) ∧
    (s.alarm = true ↔
      (s.holds.reasons ≠ .empty ∨ ∃ st : Station, s.holds.others[st] ≠ none) ∨
      s.causes.getLsbD 7 = true ∨ s.causes.getLsbD 8 = true ∨ s.causes.getLsbD 9 = true ∨
      s.causes.getLsbD 11 = true)

/-- The read-outs answer OK and change nothing but the response buffer (R11, R67, R143, R151, R173), and what their
bodies carry, byte by byte: the codings of R170, the parts of STATUS (R34, R49, R69, R105, R118, R130, R133,
R173, R175), the payloads and records of R171 and R172 that the bodies hold, and the bodies of READ_PEER, READ_RACK,
READ_STRING, FETCH_SUMMARY and READ_METERS (R172, R173). Three values in them are free, and the instant of the drive
rise takes four bytes (log 13). The model's choices in the layouts are those of log 14, the window byte without
clock and windows (log 11), the unit of the listen timer (log 21), what a held role without its group shows (log 49)
and the first bit of the pending mask (log 48). -/
def Obligations.ReadOutsChangeOnlyTheAnswer : Prop :=
  ∀ (station : Byte) (s : State),
    let timeUp := fun t => (t - s.now + 12499) / 12500
    let n := s.node
    let k := s.link
    let c := s.circ
    let b := s.bal
    let q := s.seq
    let v := s.inventory
    let t := s.depth
    let g := s.log
    let iv := g.current
    let j := s.meter.job
    let chosen (names : List (Bool × Nat)) : List Nat := (names.filter (·.1)).map (·.2)
    let active : List (Fin 4) := (n.mud.map fun m => (List.finRange 4).filter fun i => i.val < m.pits).getD []
    exec .status s = .next (s.replied .status ⟨.ok, s.statusBody⟩) ∧
    (∀ st : Station, station.toNat = st.val →
      exec (.readPeer station) s = .next (s.replied (.readPeer station) ⟨.ok, s.peerBody st⟩)) ∧
    (8 ≤ station.toNat →
      exec (.readPeer station) s = .next (s.replied (.readPeer station) ⟨.badValue, [1#8]⟩)) ∧
    (s.active .handler = true →
      exec .readRack s = .next (s.replied .readRack ⟨.ok, rackBody s.inventory⟩) ∧
      exec .readString s = .next (s.replied .readString ⟨.ok, stringBody s.inventory⟩)) ∧
    (s.active .head = true →
      exec .readCursor s = .next (s.replied .readCursor ⟨.ok, be 4 s.log.cursor⟩)) ∧
    (s.active .cab = true →
      exec .readMeters s = .next (s.replied .readMeters ⟨.ok, s.metersBody⟩)) ∧
    (rackBody s.inventory).length = 543 ∧
    (stringBody s.inventory).length = 21 + 9 * s.inventory.string.length ∧
    (summaryBody s.meter.job).length = 187 ∧ s.metersBody.length = 264 ∧
    -- the codings of R170 and R166
    (∀ (w x : Nat) (y : Int), be 0 x = [] ∧ be (w + 1) x = BitVec.ofNat 8 (x / 256 ^ w) :: be w x ∧
      beSigned w y = be w (y % (256 ^ w : Nat)).toNat) ∧
    (flagByte false = [0#8] ∧ flagByte true = [1#8]) ∧
    (∀ (α : Type) (f : α → List Byte) (x : α) (xs : List α), optionalField f none = [0#8] ∧
      optionalField f (some x) = 1#8 :: f x ∧ listField f xs = be 1 xs.length ++ xs.flatMap f) ∧
    (∀ day minute, timeField none = [0xFF#8, 0xFF#8, 0xFF#8, 0xFF#8] ∧
      timeField (some (day, minute)) = be 2 day ++ be 2 minute) ∧
    (∀ st : Station, stationField none = [0xFF#8] ∧ stationField (some st) = be 1 st.val) ∧
    (∀ r : RoleSet,
      roleNibble r = r.mud.toNat * 8 + r.handler.toNat * 4 + r.head.toNat * 2 + r.cab.toNat) ∧
    (∀ r : ReasonSet, reasonSetField r = listField (be 1)
      (chosen [(r.driller, 0), (r.flowGain, 1), (r.handlingFault, 2), (r.recovery, 3)])) ∧
    ([.config, .listen, .running].map (codeByte nodeStateTable) = [[0#8], [1#8], [2#8]]) ∧
    ([.unheard, .fresh, .stale, .lost].map (codeByte freshnessTable) = [[0#8], [1#8], [2#8], [3#8]]) ∧
    ([.active, .orphaned].map (codeByte holdStateTable) = [[0#8], [1#8]]) ∧
    ([.unknown, .idle, .busy, .owner, .jammed].map (codeByte lineStateTable) =
      [[0#8], [1#8], [2#8], [3#8], [4#8]]) ∧
    ([.faultLimit, .clash].map (codeByte muteCauseTable) = [[0#8], [1#8]]) ∧
    ([.off, .starting, .running, .stopping, .failed].map (codeByte pumpStateTable) =
      [[0#8], [1#8], [2#8], [3#8], [4#8]]) ∧
    ([.stopped, .locked, .priming, .circulating, .bleeding].map (codeByte circStateTable) =
      [[0#8], [1#8], [2#8], [3#8], [4#8]]) ∧
    ([.normal, .loss, .gain, .degraded].map (codeByte conditionTable) = [[0#8], [1#8], [2#8], [3#8]]) ∧
    ([.idle, .active, .faulted, .transitHeld, .recover].map (codeByte seqStateTable) =
      [[0#8], [1#8], [2#8], [3#8], [4#8]]) ∧
    ([.none, .makeup, .breakout].map (codeByte cycleKindTable) = [[0#8], [1#8], [2#8]]) ∧
    ([none, some .slips, some .breakJoint, some .load, some .joint, some .lift, some .drive, some .store,
      some .release].map (codeByte stepTable) =
      [[0#8], [1#8], [2#8], [3#8], [4#8], [5#8], [6#8], [7#8], [8#8]]) ∧
    ([.unhomed, .tracking, .frozen, .resync].map (codeByte trackingTable) = [[0#8], [1#8], [2#8], [3#8]]) ∧
    (lithologyTable.map (codeOf lithologyTable) = List.range 16 ∧
      lithologyTable = [.topsoil, .clay, .silt, .sand, .gravel, .boulder, .sandstone, .siltstone, .shale,
        .conglomerate, .limestone, .weatheredRock, .granite, .gneiss, .basalt, .quartzite]) ∧
    ([.none, .inFlight, .clean, .fault].map (codeByte scanStateTable) = [[0#8], [1#8], [2#8], [3#8]]) ∧
    ([.noJob, .opened, .suspended, .closed].map (codeByte jobStateTable) = [[0#8], [1#8], [2#8], [3#8]]) ∧
    ([.held, .down, .drilling, .tripping, .connecting, .circulating, .standby].map
      (codeByte activityTable) = [[0#8], [1#8], [2#8], [3#8], [4#8], [5#8], [6#8]]) ∧
    ([.ok, .pending, .noRequest, .truncated, .unknown, .notRole, .roleYielded, .badState, .badValue, .busy,
      .held, .configLocked].map statusCode = List.range 12) ∧
    ([.queueFull, .notHolding, .notOrphaned].map statusCode = [0x10, 0x11, 0x12]) ∧
    ([.slotOccupied, .slotEmpty, .duplicateId, .stringFull, .stringEmpty, .rackEmpty, .rackFull,
      .transitEmpty, .transitOccupied].map statusCode = (List.range 9).map (0x20 + ·)) ∧
    ([.locked, .handlerOpen, .suctionLow, .handlerHeard].map statusCode = [0x40, 0x41, 0x42, 0x43]) ∧
    ([.stringNotEmpty, .remarksFull, .storeBusy, .noSuchRecord].map statusCode =
      [0x50, 0x51, 0x52, 0x53]) ∧
    ([.summaryUnread, .accumSaturated].map statusCode = [0x60, 0x61]) ∧
    -- STATUS: its parts, each present as R173 says
    (∀ (code : Nat) (content : List Byte), part code content = be 1 code ++ be 2 content.length ++ content) ∧
    (s.statusBody = part 1 s.nodePart ++ part 2 k.part ++ part 3 s.holdPart ++
      (if s.holdsRole .mud = true then part 4 s.mudPart ++ part 5 s.balancePart else []) ++
      (if s.holdsRole .handler = true then part 6 s.handlerPart else []) ++
      (if s.holdsRole .head = true then part 7 s.depthPart ++ part 8 s.logPart else [])) ∧
    (s.nodePart = codeByte nodeStateTable n.state ++ stationField (n.node.map (·.station)) ++
      be 1 (roleNibble s.rolesHeld) ++ be 1 (roleNibble n.yielded) ++
      listField (be 1) (chosen [(n.node.isSome, 0), (n.mud.isSome, 1), (n.handler.isSome, 2),
        (n.head.isSome, 3), (n.cab.isSome, 4)]) ++
      be 1 ((s.timers.listen.map timeUp).getD 0) ++ be 2 n.epoch.toNat ++ clockField s.clock.time ++
      flagByte n.foundInvalid) ∧
    (clockField none = [0#8, 0xFF#8, 0xFF#8, 0xFF#8, 0xFF#8, Config.unsetSecond]) ∧
    (∀ now : ClockTime, clockField (some now) =
      1#8 :: (be 2 now.day ++ be 2 now.minute ++ be 1 now.second)) ∧
    (k.part = codeByte lineStateTable k.line ++ flagByte k.mute.isSome ++
      optionalField (codeByte muteCauseTable) k.mute ++ be 1 k.faultCount ++ be 1 k.errorCount ++
      be 1 k.queue.length ++ optionalField (fun h => be 1 (if h = .set then 0 else 1)) k.holdFrame ++
      listField (be 1) (chosen [(k.due.mud, 3), (k.due.handler, 4), (k.due.head, 5), (k.due.cab, 6),
        (k.due.presence, 7)])) ∧
    (s.holdPart = listField (fun e => be 1 e.1.val ++ [e.2.1] ++ codeByte holdStateTable e.2.2)
        s.entriesShown ++ reasonSetField s.holds.reasons ++ flagByte s.held) ∧
    (∀ (st : Station) (reason : Byte) (state : HoldState), (st, reason, state) ∈ s.entriesShown ↔
      if s.station = some st ∧ s.holds.reasons ≠ .empty then
        state = .active ∧ ∃ r, s.holds.reasons.first = some r ∧ reason = r.bits
      else ∃ e, s.holds.others[st] = some e ∧ e.reason = reason ∧ e.state = state) ∧
    ((s.entriesShown.map (·.1)).Pairwise (· < ·)) ∧
    (∀ p : Pump, s.pumpField p = codeByte pumpStateTable (c.pump p).state ++
      be 1 (if s.pumpTimerRuns p = true then (c.pump p).timer else 0) ++ flagByte (s.pins.pumpRun p) ++
      be 4 (c.pump p).seconds ++ be 1 (c.pump p).tenths) ∧
    (∀ p : Pump, s.pumpTimerRuns p = true ↔
      s.acts .mud = true ∧ ((c.pump p).state = .starting ∨ (c.pump p).state = .stopping)) ∧
    (s.mudPart = s.pumpField .one ++ s.pumpField .two ++ codeByte circStateTable c.state ++ be 1 c.bled ++
      be 2 c.returns ++ be 1 c.absent ++ flagByte c.returnsAbsent ++ be 2 c.strokes1 ++ be 2 c.strokes2 ++
      be 4 c.flowIn ++ be 2 c.pressure ++ be 1 c.heldSamples ++ flagByte (c.heldSamples == 5) ++
      optionalField (be 2) s.suctionVolume ++ flagByte s.suctionLow ++ c.additives.toList.flatMap (be 4) ++
      resultField s.directives.mud) ∧
    (n.mud = none → s.suctionVolume = none) ∧
    (∀ (m : MudConfig) (i : Fin 4), n.mud = some m → m.suctionPit = i.val + 1 →
      s.suctionVolume = b.pits[i].level.map fun level => level * m.areas[i] / 10000) ∧
    (s.balancePart = codeByte conditionTable b.announced ++ codeByte conditionTable b.underlying ++
      beSigned 6 b.sum ++ be 1 (b.window.toList.countP (·.degraded)) ++
      b.window.toList.flatMap (fun w => beSigned 4 w.value ++ flagByte w.degraded) ++
      be 1 b.position.val ++ beSigned 4 b.last ++ flagByte b.lastSaturated ++
      listField (fun i => optionalField (be 2) b.pits[i].level ++ optionalField (be 2) b.pits[i].inUse ++
        flagByte b.pits[i].held ++ flagByte b.pits[i].holdEnded) active ++
      be 4 s.totalVolume ++ be 4 b.prevD ++ be 4 b.prevH ++ flagByte b.depthHeld ++
      beSigned 1 b.steelResidue ++ beSigned 1 b.holeResidue ++ be 6 b.gainTotal ++ be 6 b.lossTotal ++
      be 2 b.water) ∧
    (n.mud = none → s.totalVolume = 0) ∧
    (∀ m : MudConfig, n.mud = some m →
      s.totalVolume = (active.map fun i => b.pits[i].inUse.getD 0 * m.areas[i]).sum) ∧
    (s.handlerPart = codeByte seqStateTable q.state ++ codeByte cycleKindTable q.kind ++
      codeByte stepTable q.step ++ optionalField (fun i => be 1 i.val) q.slot ++
      optionalField faultField q.fault ++ be 2 q.timer ++ flagByte s.stepTimerRuns ++
      (codeByte cycleKindTable q.plan.kind ++ be 1 q.plan.remaining ++ flagByte q.plan.faultPause ++
        flagByte q.plan.holdPause ++ optionalField (fun code => be 1 (statusCode code)) q.plan.endCause) ++
      flagByte s.breakoutPermit ++ flagByte q.lockedMark ++ be 4 q.makeups ++ be 4 q.breakouts ++
      optionalField (fun m => codeByte cycleKindTable m.kind ++ codeByte stepTable (some m.step) ++
        codeByte seqStateTable m.state ++ be 1 m.slot.val ++ optionalField (be 2) m.rod) q.marker ++
      (be 1 v.carousel.val ++ be 1 v.serviceableCount ++ be 1 v.emptyCount ++ be 1 v.string.length ++
        beSigned 2 v.tally ++ flagByte v.adjusted ++ be 4 v.length)) ∧
    (faultField .timeout = [0#8, 0#8]) ∧
    (∀ code, faultField (.moveRefused code) = 1#8 :: 1#8 :: be 1 (statusCode code)) ∧
    (v.serviceableCount = v.rack.toList.countP (fun r => r.any (·.status = .serviceable)) ∧
      v.emptyCount = v.rack.toList.countP (fun r => r = none) ∧
      v.sumOfLengths = (v.string.map (·.length)).sum ∧
      v.length = ((v.sumOfLengths : Int) + v.tally).toNat) ∧
    (s.depthPart = be 4 t.count ++ be 4 s.headHeight ++ be 4 t.d ++ be 4 t.dmax ++ be 4 t.advance ++
      codeByte trackingTable t.tracking ++ flagByte t.jumpHeld ++ flagByte s.pins.headDrive ++
      flagByte s.pins.home ++ optionalField (fun rise => be 4 (Config.instantCode rise).toNat) t.driveRise ++
      be 4 t.lastL ++ flagByte t.onBottom ++ t.ring.toList.flatMap (be 4) ++ be 1 t.filled ++
      t.footage.toList.flatMap (be 4)) ∧
    (∀ d : HeadConfig, n.head = some d → s.headHeight = t.count * d.micronsPerCount / 1000) ∧
    (s.logPart = be 4 iv.sequence ++ be 4 iv.gridBase ++ be 4 iv.top ++
      codeByte lithologyTable iv.lithology ++ be 2 iv.jobNumber ++ timeField iv.openTime ++
      be 4 iv.bottomSeconds ++ be 1 iv.bottomTenths ++ be 4 iv.revolutions ++
      optionalField (fun m => be 4 m.gain ++ be 4 m.loss ++ be 2 m.epoch.toNat) iv.baseline ++
      be 1 (flagsByte iv.flags) ++ listField (fun remark => [remark]) iv.remarks ++
      optionalField bodyField iv.lower ++ be 4 (iv.nextBoundary s.intervalLength t.dmax) ++
      be 2 g.store.length ++ optionalField (be 4) g.oldestStored ++ optionalField (be 4) g.newestStored ++
      be 4 g.cursor ++ flagByte g.latch ++
      (codeByte scanStateTable g.scan.state ++ optionalField (be 4) g.scan.position ++
        optionalField (be 4) g.scan.last ++ optionalField (be 4) g.scan.faulty) ++ be 1 g.discards) ∧
    (iv.nextBoundary s.intervalLength t.dmax =
      iv.gridBase + ((t.dmax - iv.gridBase) / s.intervalLength + 1) * s.intervalLength) ∧
    (n.head = none → s.intervalLength = 0) ∧
    (∀ d : HeadConfig, n.head = some d → s.intervalLength = d.intervalLength) ∧
    (g.store = [] → g.oldestStored = none ∧ g.newestStored = none) ∧
    (g.store ≠ [] → g.oldestStored = some (iv.sequence - g.store.length) ∧
      g.newestStored = some (iv.sequence - 1)) ∧
    -- the payloads and records of R171 and R172
    (∀ st : Station, s.peerBody st = slotField presencePayload s.peers[st].presence ++
      slotField mudPayload s.peers[st].mud ++ slotField handlerPayload s.peers[st].handler ++
      slotField headPayload s.peers[st].head ++ slotField cabPayload s.peers[st].cab ++
      stationField (s.owner .mud) ++ stationField (s.owner .handler) ++ stationField (s.owner .head) ++
      stationField (s.owner .cab)) ∧
    (∀ (α : Type) (f : α → List Byte) (heard : Freshness) (age : Nat) (content : α),
      slotField f ⟨.unheard, age, none⟩ = 0#8 :: be 2 age ∧
      (heard ≠ .unheard → slotField f ⟨heard, age, some content⟩ =
        codeByte freshnessTable heard ++ be 2 age ++ f content)) ∧
    (resultField none = [0#8, 0#8, 0#8]) ∧
    (∀ r : DirectiveResult, resultField (some r) =
      [BitVec.ofNat 8 (128 + r.source.val * 16 + r.code.toNat), r.result, r.field]) ∧
    (∀ p : Presence, presencePayload p =
      [BitVec.ofNat 8 (roleNibble p.held * 16 + roleNibble p.yielded),
        BitVec.ofNat 8 (p.running.toNat * 128 +
          ((p.holding.map fun r => 64 + codeOf holdReasonTable r).getD 0))] ++ be 2 p.epoch.toNat) ∧
    (∀ a : MudAnnounce, mudPayload a =
      [BitVec.ofNat 8 (a.circ.toNat * 32 + codeOf conditionTable a.condition * 8 +
          a.returnsAbsent.toNat * 4),
        BitVec.ofNat 8 (a.pump1.toNat * 32 + a.pump2.toNat * 4)] ++
      (be 4 a.flowIn.toNat ++ be 2 a.pressure.toNat ++ be 3 a.balance.toNat ++ be 4 a.gain.toNat ++
        be 4 a.loss.toNat ++ be 4 a.running1.toNat ++ be 4 a.running2.toNat ++
        a.additives.toList.flatMap (fun x => be 4 x.toNat) ++ be 2 a.epoch.toNat ++
        resultField a.result)) ∧
    (∀ a : HandlerAnnounce, handlerPayload a =
      [BitVec.ofNat 8 (a.kind.toNat * 64 + a.stringOpen.toNat * 32 + a.permit.toNat * 16 + a.step.toNat)] ++
      (be 3 a.length.toNat ++ be 1 a.entries.toNat ++ be 2 a.topRod.toNat ++ be 1 a.remaining.toNat ++
        be 4 a.makeups.toNat ++ be 4 a.breakouts.toNat ++ be 2 a.epoch.toNat ++ resultField a.result)) ∧
    (∀ a : HeadAnnounce, headPayload a = be 4 a.d.toNat ++ be 4 a.dmax.toNat ++
      [BitVec.ofNat 8 (codeOf trackingTable a.tracking * 64 + a.onBottom.toNat * 32 +
        codeOf lithologyTable a.lithology)] ++ be 4 a.rop.toNat ++ be 4 a.sequence.toNat ++
      a.footage.toList.flatMap (fun x => be 4 x.toNat) ++ be 2 a.epoch.toNat ++ resultField a.result) ∧
    (∀ a : CabAnnounce, cabPayload a =
      [BitVec.ofNat 8 (codeOf jobStateTable a.jobState * 64 + a.activity.toNat)] ++
      (be 2 a.jobNumber.toNat ++ be 2 a.epoch.toNat)) ∧
    (rackBody v = be 1 v.carousel.val ++ be 1 v.serviceableCount ++ be 1 v.emptyCount ++
      v.rack.toList.flatMap rodField) ∧
    (stringBody v = be 1 v.string.length ++ be 4 v.sumOfLengths ++ beSigned 2 v.tally ++
      flagByte v.adjusted ++ be 4 v.length ++ rodField v.transit ++
      v.string.flatMap (fun r => rodField (some r))) ∧
    (rodField none = List.replicate 9 0#8) ∧
    (∀ r : Rod, rodField (some r) = be 2 r.id ++
      be 1 ((if r.status = .worn then 128 else 0) + codeOf rodKindTable r.kind) ++ be 2 r.length ++
      be 2 r.makeups ++ be 2 (r.registeredAt.getD 0xFFFF)) ∧
    ([.drillRod, .collar, .stabiliser, .reamer, .bit, .crossover].map (codeOf rodKindTable) =
      List.range 6) ∧
    (∀ r : StrataRecord, recordField r = be 4 r.sequence ++ bodyField r.body ++ be 2 r.crc.toNat) ∧
    (∀ x : StrataBody, bodyField x = be 2 x.jobNumber ++ be 4 x.top ++ be 4 x.bottom ++
      be 1 (codeOf bandTable x.band * 16 + codeOf lithologyTable x.lithology) ++ timeField x.openTime ++
      timeField x.closeTime ++ be 4 x.bottomSeconds ++ be 4 x.revolutions ++ be 4 x.meanRop ++
      be 4 x.mudGain ++ be 4 x.mudLoss ++ be 1 (flagsByte x.flags) ++
      (be 1 x.remarks.length ++ (x.remarks ++ List.replicate 4 0#8).take 4)) ∧
    ([.soft, .medium, .hard, .extraHard].map (codeOf bandTable) = List.range 4) ∧
    (∀ f : StrataFlags, flagsByte f = f.water.toNat + f.depthMismatch.toNat * 2 + f.mudGap.toNat * 4 +
      f.balanceDegraded.toNat * 8 + f.overrun.toNat * 16 + f.storeFault.toNat * 32) ∧
    -- the bodies of R173
    (summaryBody j = be 2 (j.number.getD 0) ++ timeField j.openTime ++ timeField j.closeTime ++
      j.accumulators.toList.flatMap (fun a => be 6 (a.saturated.toNat * 2 ^ 47 + a.mills)) ++
      j.quantities.toList.flatMap (be 4) ++
      be 1 (j.flags.footageGap.toNat + j.flags.mudGap.toNat * 2 + j.flags.handlerGap.toNat * 4 +
        j.flags.clockGap.toNat * 8)) ∧
    (s.metersBody = summaryBody j ++ codeByte jobStateTable j.state ++ flagByte j.summaryRead ++
      j.timeResidues.toList.flatMap (be 4) ++ j.bandResidues.toList.flatMap (be 1) ++
      j.baselines.toList.zipIdx.flatMap (fun x => be 4 (x.1.getD (Config.pendingBaseline x.2).toNat)) ++
      be 2 (pendingMask j.baselines.toList) ++ codeByte activityTable s.meter.activity ++
      ((s.meter.window.map fun w => be 1 w.1 ++ be 2 w.2).getD [0xFF#8, 0#8, 0#8]) ++
      flagByte s.clock.time.isSome) ∧
    (∀ i : Nat, (pendingMask j.baselines.toList).testBit i = (j.baselines.toList[i]? == some none))

/-! ### Rig holds (chapter 3) -/

/-- Placing and removing a local reason, with frame, cause and held edge (R43, R44, R49, R51). The held edge
hold-pauses a plan that remains, unless it is fault-paused (R77, R82). -/
def Obligations.LocalReasonsChange : Prop :=
  ∀ (r : HoldReason) (s : State),
    let more := s.holds.reasons.set true r
    let fewer := s.holds.reasons.set false r
    (s.holds.reasons.has r = true → s.placeReason r = s) ∧
    (s.holds.reasons.has r = false →
      s.placeReason r = { s with
        holds := { s.holds with reasons := more }
        causes := s.causes ||| causeBit .holdChanged
        link := if s.holds.reasons.first = more.first then s.link else s.link.placeHold .set
        seq := if s.held then s.seq else s.heldEdge.seq }) ∧
    (s.holds.reasons.has r = false → s.removeReason r = s) ∧
    (s.holds.reasons.has r = true →
      s.removeReason r = { s with
        holds := { s.holds with reasons := fewer }
        causes := s.causes ||| causeBit .holdChanged
        link := if fewer = .empty then s.link.placeHold .release
          else if s.holds.reasons.first = fewer.first then s.link else s.link.placeHold .set }) ∧
    (s.acts .handler = true ∧ 0 < s.seq.plan.remaining ∧ s.seq.plan.faultPause = false →
      s.heldEdge = { s with seq := { s.seq with plan := { s.seq.plan with holdPause := true } } }) ∧
    (¬ (s.acts .handler = true ∧ 0 < s.seq.plan.remaining ∧ s.seq.plan.faultPause = false) →
      s.heldEdge = s)

/-- HOLD, RELEASE_HOLD and CLEAR_HOLD (R43, R44, R48). That a set of reasons is answered as a list of its members
in table order, `reasonSetField`, is the model's choice (log 14). -/
def Obligations.HoldRequestsChangeTheSet : Prop :=
  ∀ (r : HoldReason) (st : Station) (b : Byte) (s : State),
    (s.node.state = .running →
      exec .hold s = .next ((s.placeReason .driller).settle.replied .hold
        ⟨.ok, reasonSetField (s.holds.reasons.set true .driller)⟩)) ∧
    (s.node.state ≠ .running →
      exec .hold s = .next (s.replied .hold ⟨.badState, []⟩)) ∧
    (b.toNat = codeOf holdReasonTable r → s.holds.reasons.has r = true →
      (r = .driller ∨ r = .flowGain ∨ s.active .handler = false) →
      exec (.releaseHold b) s = .next ((s.removeReason r).settle.replied (.releaseHold b)
        ⟨.ok, reasonSetField (s.holds.reasons.set false r)⟩)) ∧
    (b.toNat = codeOf holdReasonTable r → s.holds.reasons.has r = false →
      exec (.releaseHold b) s = .next (s.replied (.releaseHold b) ⟨.notHolding, []⟩)) ∧
    (b.toNat = codeOf holdReasonTable r → s.holds.reasons.has r = true →
      r = .handlingFault ∨ r = .recovery → s.active .handler = true →
      exec (.releaseHold b) s = .next (s.replied (.releaseHold b) ⟨.badState, []⟩)) ∧
    (4 ≤ b.toNat →
      exec (.releaseHold b) s = .next (s.replied (.releaseHold b) ⟨.badValue, [1#8]⟩)) ∧
    (∀ e, b.toNat = st.val → s.holds.others[st] = some e → e.state = .orphaned →
      exec (.clearHold b) s = .next (State.replied (State.settle { s with
        holds := { s.holds with others := put s.holds.others st none }
        causes := s.causes ||| causeBit .holdChanged }) (.clearHold b) ⟨.ok, []⟩)) ∧
    (∀ e, b.toNat = st.val → s.holds.others[st] = some e → e.state = .active →
      exec (.clearHold b) s = .next (s.replied (.clearHold b) ⟨.notOrphaned, []⟩)) ∧
    (b.toNat = st.val → s.holds.others[st] = none →
      exec (.clearHold b) s = .next (s.replied (.clearHold b) ⟨.notOrphaned, []⟩)) ∧
    (8 ≤ b.toNat → exec (.clearHold b) s = .next (s.replied (.clearHold b) ⟨.badValue, [1#8]⟩))

/-- HOLD_SET and HOLD_RELEASE of another station, and its silence (R45, R47, R49). That they act only at a node
that receives a frame is the model's reading (log 7), that a silence expiry commanded before its time has no
effect is its choice (log 4), and so is that a reason outside R170 is kept as it came (log 25). R47 speaks
of another station's silence; that the entry under this node's own configured number, which CONFIG can leave
standing, is orphaned by its silence age too is the model's choice (log 35). -/
def Obligations.HoldFramesChangeTheEntry : Prop :=
  ∀ (st : Station) (reason : Byte) (s : State),
    (s.link.receiving = true → s.station ≠ some st →
      exec (.holdSetReceived st reason) s = .next { s.receiverDone with
        holds := { s.holds with others := put s.holds.others st (some ⟨reason, .active, 0⟩) }
        causes := if entryFace s.holds.others[st] = some (reason, .active) then s.causes
          else s.causes ||| causeBit .holdChanged
        seq := if s.held then s.seq else s.heldEdge.seq } ∧
      exec (.holdReleaseReceived st) s = .next (State.settle { s.receiverDone with
        holds := { s.holds with others := put s.holds.others st none }
        causes := if s.holds.others[st].isSome then s.causes ||| causeBit .holdChanged
          else s.causes })) ∧
    (s.link.receiving = false →
      exec (.holdSetReceived st reason) s = .next s ∧ exec (.holdReleaseReceived st) s = .next s) ∧
    (∀ e, s.holds.others[st] = some e → 1000 ≤ e.silence → s.peers[st].presence.freshness.heard = false →
      exec (.holdSilenceExpiry st) s = .next { s with
        holds := { s.holds with others := put s.holds.others st (some { e with state := .orphaned }) }
        causes := if e.state = .orphaned then s.causes else s.causes ||| causeBit .holdChanged }) ∧
    (∀ e, s.holds.others[st] = some e → e.silence < 1000 ∨ s.peers[st].presence.freshness.heard = true →
      exec (.holdSilenceExpiry st) s = .next s) ∧
    (s.holds.others[st] = none → exec (.holdSilenceExpiry st) s = .next s)

/-! ### The peer view table (chapter 1) -/

/-- The role owner map (R8): who claims a role, the lowest number among the claims, no change when a slot
passes from FRESH to STALE, no owner after a reset. -/
def Obligations.RoleOwnerMap : Prop :=
  ∀ (r : Role) (s : State),
    let claims (st : Station) : Prop :=
      (((s.peers[st].presence.freshness = .fresh ∨ s.peers[st].presence.freshness = .stale) ∧
          ∃ p, s.peers[st].presence.content = some p ∧ p.held.has r = true) ∨
        s.peers[st].freshness (.announce r) = .fresh ∨ s.peers[st].freshness (.announce r) = .stale) ∧
      ¬ (s.peers[st].presence.freshness ≠ .unheard ∧
        ∃ p, s.peers[st].presence.content = some p ∧ p.yielded.has r = true)
    (∀ st, s.owner r = some st ↔ claims st ∧ ∀ lower, lower < st → ¬ claims lower) ∧
    (s.owner r = none ↔ ∀ st, ¬ claims st) ∧
    (∀ st slot t, exec (.slotStale st slot) s = .next t → t.owner r = s.owner r) ∧
    (∀ t, exec .reset s = .next t → t.owner r = none)

/-- What a replaced table and a yield change besides it (R13, R14, R84, R135): the MUD owner's change clears
the locked mark and the log's kept condition; a yielded role leaves the due kinds and stops its work, and all
else of its volatile state stays as it stands, an ended verify scan too. -/
def Obligations.TableAndYields : Prop :=
  ∀ (peers : Vector PeerEntry 8) (r : Role) (s : State),
    let yielded : State := { s with
      node := { s.node with yielded := s.node.yielded.insert r }
      link := { s.link with due := s.link.due.drop r }
      causes := s.causes ||| causeBit .roleYielded }
    (ownerIn peers .mud = s.owner .mud → s.withPeers peers = { s with peers := peers }) ∧
    (ownerIn peers .mud ≠ s.owner .mud → s.withPeers peers = { s with
      peers := peers
      seq := if s.acts .handler then { s.seq with lockedMark := false } else s.seq
      log := if s.acts .head then { s.log with kept := none } else s.log }) ∧
    (s.active r = false → s.yieldRole r = s) ∧
    (s.active .mud = true → r = .mud → s.yieldRole r =
      { yielded with timers := { s.timers with balance := none } }) ∧
    (s.active .head = true → r = .head → s.yieldRole r = { yielded with
      timers := { s.timers with rop := none, scan := none }
      log := { s.log with
        scan := if s.log.scan.state = .inFlight then ⟨.none, none, none, none⟩ else s.log.scan
        onBottom := false } }) ∧
    (s.active .cab = true → r = .cab → s.yieldRole r =
      { yielded with timers := { s.timers with second := none } }) ∧
    (s.active .handler = true → r = .handler → s.node.state ≠ .running ∨ s.seq.marker = none →
      s.yieldRole r = yielded) ∧
    (∀ m, s.active .handler = true → r = .handler → s.node.state = .running → s.seq.marker = some m →
      s.yieldRole r = State.placeReason .recovery { yielded with seq := { s.seq with
        state := .recover, kind := m.kind, step := some m.step, slot := some m.slot, fault := none } })

/-- PRESENCE_RECEIVED and ANNOUNCEMENT_RECEIVED from another station (R4, R12, R26, R46): the frame stored, the
yields decided, then the hold entry added, replaced or removed, or the content handed to the readers if the map
names its sender as the role's owner. That the yields come before the hold set and the readers, and in the order
of R170's codes, is the model's (log 23), and so is that a node that receives no frame takes none (log 7). -/
def Obligations.ReceivedFramesAreStored : Prop :=
  ∀ (st : Station) (p : Presence) (a : Announcement) (s : State),
    (s.link.receiving = true → s.station ≠ some st →
      let below : Prop := s.node.state ≠ .config ∧ s.station.any (st < ·) = true
      let heard := s.receiverDone.withPeers
        (put s.peers st { s.peers[st] with presence := ⟨.fresh, 0, some p⟩ })
      let claimed (r : Role) (s : State) : State :=
        if p.held.has r = true ∧ p.yielded.has r = false then s.yieldRole r else s
      let yielded := if below then claimed .cab (claimed .head (claimed .handler (claimed .mud heard)))
        else heard
      let r := announcedRole a
      let stored := s.receiverDone.withPeers (put s.peers st (s.peers[st].storeAnnouncement a))
      let decided := if below ∧ s.peers[st].yieldsRole r = false then stored.yieldRole r else stored
      exec (.presenceReceived st p) s =
        .next (yielded.setEntry st (p.holding.map fun reason => ⟨reason.bits, .active, 0⟩)).settle ∧
      exec (.announcementReceived st a) s =
        .next (if stored.owner r = some st then decided.readArrival a else decided).settle) ∧
    (s.link.receiving = false →
      exec (.presenceReceived st p) s = .next s ∧ exec (.announcementReceived st a) s = .next s) ∧
    (∀ m, s.peers[st].storeAnnouncement (.mud m) = { s.peers[st] with mud := ⟨.fresh, 0, some m⟩ }) ∧
    (∀ h, s.peers[st].storeAnnouncement (.handler h) =
      { s.peers[st] with handler := ⟨.fresh, 0, some h⟩ }) ∧
    (∀ h, s.peers[st].storeAnnouncement (.head h) = { s.peers[st] with head := ⟨.fresh, 0, some h⟩ }) ∧
    (∀ c, s.peers[st].storeAnnouncement (.cab c) = { s.peers[st] with cab := ⟨.fresh, 0, some c⟩ })

/-- What an owner arrival gives the blocks that read it: the string lock (R95), the locked mark (R84), the log's
flags (R135), and after these the depth tracker (R124 to R126) and the job meter (R156 to R158), whose readings
have statements of their own. -/
def Obligations.OwnerArrivalsReachTheirReaders : Prop :=
  ∀ (m : MudAnnounce) (h : HandlerAnnounce) (a : CabAnnounce) (s : State),
    let lockState : CircState :=
      if s.acts .mud = true ∧ s.circ.state = .stopped ∧ h.stringOpen = true then .locked
      else if s.acts .mud = true ∧ s.circ.state = .locked ∧ h.stringOpen = false then .stopped
      else s.circ.state
    let mark : Bool :=
      if s.acts .handler = true ∧ s.seq.state = .active ∧ s.seq.step = some .breakJoint then
        decide (m.circ = CircState.bits .locked)
      else s.seq.lockedMark
    let locked : State := { s with circ := { s.circ with state := lockState } }
    let marked : State := { s with seq := { s.seq with lockedMark := mark } }
    let logged : State := { marked with log := (s.readArrival (.mud m)).log }
    (s.readArrival (.cab a) = s) ∧
    ((s.readArrival (.handler h)).circ = { s.circ with state := lockState }) ∧
    ((s.readArrival (.mud m)).seq = { s.seq with lockedMark := mark }) ∧
    (s.acts .head = false → (s.readArrival (.mud m)).log = s.log) ∧
    (s.acts .head = true → (s.readArrival (.mud m)).log = { s.log with
      kept := if m.condition = .degraded then s.log.kept else some m.condition
      current := { s.log.current with flags := { s.log.current.flags with
        balanceDegraded := s.log.current.flags.balanceDegraded || decide (m.condition = .degraded)
        water := s.log.current.flags.water || decide (m.condition = .gain ∧ s.log.kept ≠ some .gain ∧
          (s.depth.onBottom = true ∨ s.depth.dmax ≤ s.depth.d + s.intervalLength)) } } }) ∧
    (s.readArrival (.mud m) = logged.meterMud m) ∧
    (s.acts .head = false → s.readArrival (.handler h) = locked.meterHandler h) ∧
    (∀ c, s.acts .head = true → s.node.head = some c →
      s.readArrival (.handler h) = (locked.depthHandlerArrival c h).meterHandler h) ∧
    ((s.readArrival (.mud m)).circ = s.circ ∧ (s.readArrival (.mud m)).depth = s.depth ∧
      (s.readArrival (.handler h)).seq = s.seq)

/-- SLOT_STALE and SLOT_LOST (R5, R6, R47): freshness and age, PEER_LOST, the orphaned hold entry. LOST is entered
from STALE only. That a row commanded before the age is reached has no effect is the model's choice (log 4), and
so is that this node's own presence slot orphans nothing in CONFIG (log 35). -/
def Obligations.SlotsGoStaleAndLost : Prop :=
  ∀ (st : Station) (slot : SlotName) (s : State),
    let e := s.peers[st]
    let lost := s.withPeers (put s.peers st (e.marked slot .lost 1000))
    let owned : Bool := match slot with
      | .presence => true
      | .announce r => s.owner r == some st
    let alarmed : State :=
      if owned = true then { lost with causes := lost.causes ||| causeBit .peerLost } else lost
    (e.freshness slot = .fresh → 150 ≤ e.age slot →
      exec (.slotStale st slot) s =
        .next { s with peers := put s.peers st (e.marked slot .stale (e.age slot)) }) ∧
    (e.freshness slot ≠ .fresh ∨ e.age slot < 150 → exec (.slotStale st slot) s = .next s) ∧
    (e.freshness slot = .stale → 1000 ≤ e.age slot →
      (s.station = some st → exec (.slotLost st slot) s = .next lost.settle) ∧
      (s.station ≠ some st → slot ≠ .presence → exec (.slotLost st slot) s = .next alarmed.settle) ∧
      (s.station ≠ some st → slot = .presence → s.holds.others[st] = none →
        exec (.slotLost st slot) s = .next alarmed.settle) ∧
      (∀ h, s.station ≠ some st → slot = .presence → s.holds.others[st] = some h →
        exec (.slotLost st slot) s =
          .next (alarmed.setEntry st (some { h with state := .orphaned })).settle)) ∧
    (e.freshness slot ≠ .stale ∨ e.age slot < 1000 → exec (.slotLost st slot) s = .next s) ∧
    (∀ f age, (e.marked slot f age).freshness slot = f ∧ (e.marked slot f age).age slot = age ∧
      (∀ other, other ≠ slot → (e.marked slot f age).freshness other = e.freshness other ∧
        (e.marked slot f age).age other = e.age other))

/-! ### The rig link (chapter 2) -/

/-- SEND_DIRECTIVE (R38, R39's table) and UNMUTE (R33). -/
def Obligations.LinkRequestsAreTaken : Prop :=
  ∀ (role code : Byte) (arg : List Byte) (s : State),
    let c := Instr.sendDirective role code arg
    let suits : Prop := (role = 0#8 ∧ (code = 3#8 ∨ code = 4#8)) ∨ (role = 1#8 ∧ code = 5#8) ∨
      (role = 2#8 ∧ (code = 0#8 ∨ code = 1#8 ∨ code = 2#8))
    let size := if code = 2#8 ∨ code = 5#8 then 0 else 1
    (s.node.state ≠ .running → exec c s = .next (s.replied c ⟨.badState, []⟩)) ∧
    (s.node.state = .running →
      (4 ≤ role.toNat → exec c s = .next (s.replied c ⟨.badValue, [1#8]⟩)) ∧
      (role.toNat < 4 → ¬ suits → exec c s = .next (s.replied c ⟨.badValue, [2#8]⟩)) ∧
      (suits → arg.length ≠ size → exec c s = .next (s.replied c ⟨.badValue, [3#8]⟩)) ∧
      (suits → arg.length = size → 8 ≤ s.link.queue.length →
        exec c s = .next (s.replied c ⟨.queueFull, []⟩)) ∧
      (suits → arg.length = size → s.link.queue.length < 8 →
        exec c s = .next (State.replied
          { s with link := { s.link with queue := s.link.queue ++ [⟨role, code, arg⟩] } } c
          ⟨.ok, be 1 (s.link.queue.length + 1)⟩))) ∧
    (s.link.mute = none → exec .unmute s = .next (s.replied .unmute ⟨.badState, []⟩)) ∧
    (s.link.mute ≠ none → exec .unmute s = .next (State.replied
      { s with link := { s.link with mute := none, faultCount := 0 } } .unmute ⟨.ok, []⟩))

/-- The line state (R23, R24) and SEND_PERIOD_EXPIRY (R35). That a jam drops a transmission without a bit fault,
its frame pending as after an arbitration loss, and a reception without a receive error, is the model's (log
24), and so is that an idle interval ends a reception without one. -/
def Obligations.LineStateAndPeriodChange : Prop :=
  ∀ s : State,
    (s.link.line = .unknown ∨ s.link.line = .busy ∨ s.link.line = .jammed →
      exec .idleIntervalComplete s =
        .next { s with link := { s.link with line := .idle, receiving := false } }) ∧
    (s.link.line = .idle ∨ s.link.line = .owner → exec .idleIntervalComplete s = .next s) ∧
    (s.link.line = .idle →
      exec .dominantEdgeSeen s =
        .next { s with link := { s.link with line := .busy, receiving := true } }) ∧
    (s.link.line ≠ .idle → exec .dominantEdgeSeen s = .next s) ∧
    (s.link.line ≠ .jammed →
      exec .lineJammed s = .next { s with
        link := { s.link with
          line := .jammed, receiving := false, sending := none
          holdFrame := s.link.holdWaiting.or s.link.holdFrame, holdWaiting := none }
        causes := s.causes ||| causeBit .linkJammed }) ∧
    (s.link.line = .jammed → exec .lineJammed s = .next s) ∧
    (s.node.state = .config → exec .sendPeriodExpiry s = .next s) ∧
    (s.node.state = .listen → exec .sendPeriodExpiry s = .next { s with
      timers := { s.timers with send := some (s.now + 62500) }
      link := { s.link with due := { s.link.due with presence := true } } }) ∧
    (s.node.state = .running → exec .sendPeriodExpiry s = .next { s with
      timers := { s.timers with send := some (s.now + 62500) }
      link := { s.link with due :=
        { mud := s.link.due.mud || s.active .mud, handler := s.link.due.handler || s.active .handler
          head := s.link.due.head || s.active .head, cab := s.link.due.cab || s.active .cab
          presence := true } } })

/-- FRAME_BEGIN (R28, R36): the order of the choice, and the content of the moment: every field of the five
records, from the state its block holds (R36, R43, R118, R147), in the codes and widths of R170 and R171. -/
def Obligations.FrameBeginChoosesInOrder : Prop :=
  ∀ s : State,
    let begun (f : Frame) : State :=
      { s with link := { s.link with line := .owner, receiving := false, sending := some f } }
    let due := s.link.due
    let idle : Prop := s.link.line = .idle ∧ s.link.mute = none ∧ s.station ≠ none
    let quiet : Prop := idle ∧ s.node.state = .running ∧ s.link.holdFrame = none ∧ s.link.queue = []
    (¬ idle → exec .frameBegin s = .next s) ∧
    (idle → s.node.state = .config → exec .frameBegin s = .next s) ∧
    (idle → s.node.state = .listen →
      exec .frameBegin s =
        .next (if due.presence = true then begun (.presence s.presenceRecord) else s)) ∧
    (idle → s.node.state = .running →
      (∀ r, s.link.holdFrame = some .set → s.holds.reasons.first = some r →
        exec .frameBegin s = .next (begun (.holdSet r.bits))) ∧
      (s.link.holdFrame = some .release → exec .frameBegin s = .next (begun .holdRelease)) ∧
      (∀ d rest, s.link.holdFrame = none → s.link.queue = d :: rest →
        exec .frameBegin s = .next (begun (.directive d)))) ∧
    (quiet → due.mud = true → exec .frameBegin s = .next (begun (.announce (.mud s.mudRecord)))) ∧
    (quiet → due.mud = false → due.handler = true →
      exec .frameBegin s = .next (begun (.announce (.handler s.handlerRecord)))) ∧
    (quiet → due.mud = false → due.handler = false → due.head = true →
      exec .frameBegin s = .next (begun (.announce (.head s.headRecord)))) ∧
    (quiet → due.mud = false → due.handler = false → due.head = false → due.cab = true →
      exec .frameBegin s = .next (begun (.announce (.cab s.cabRecord)))) ∧
    (quiet → due.mud = false → due.handler = false → due.head = false → due.cab = false →
      exec .frameBegin s =
        .next (if due.presence = true then begun (.presence s.presenceRecord) else s)) ∧
    (s.mudRecord =
      { circ := BitVec.ofNat 3 (codeOf circStateTable s.circ.state), condition := s.bal.announced
        returnsAbsent := s.circ.returnsAbsent
        pump1 := BitVec.ofNat 3 (codeOf pumpStateTable s.circ.pump1.state)
        pump2 := BitVec.ofNat 3 (codeOf pumpStateTable s.circ.pump2.state)
        flowIn := BitVec.ofNat 32 s.circ.flowIn, pressure := BitVec.ofNat 16 s.circ.pressure
        balance := BitVec.ofInt 24 (litres s.bal.sum), gain := BitVec.ofNat 32 (s.bal.gainTotal / 10)
        loss := BitVec.ofNat 32 (s.bal.lossTotal / 10)
        running1 := BitVec.ofNat 32 s.circ.pump1.seconds, running2 := BitVec.ofNat 32 s.circ.pump2.seconds
        additives := #v[BitVec.ofNat 32 s.circ.additives[0], BitVec.ofNat 32 s.circ.additives[1],
          BitVec.ofNat 32 s.circ.additives[2], BitVec.ofNat 32 s.circ.additives[3]]
        epoch := s.node.epoch, result := s.directives.mud }) ∧
    (s.handlerRecord =
      { kind := BitVec.ofNat 2 (codeOf cycleKindTable s.seq.kind), stringOpen := s.seq.stringOpen
        permit := s.breakoutPermit, step := BitVec.ofNat 4 (codeOf stepTable s.seq.step)
        length := BitVec.ofNat 24 s.inventory.length
        entries := BitVec.ofNat 8 s.inventory.string.length
        topRod := match s.inventory.string.getLast? with
          | some r => BitVec.ofNat 16 r.id
          | none => 0#16
        remaining := BitVec.ofNat 8 s.seq.plan.remaining, makeups := BitVec.ofNat 32 s.seq.makeups
        breakouts := BitVec.ofNat 32 s.seq.breakouts
        epoch := s.node.epoch, result := s.directives.handler }) ∧
    (s.headRecord =
      { d := BitVec.ofNat 32 s.depth.d, dmax := BitVec.ofNat 32 s.depth.dmax
        tracking := s.depth.tracking, onBottom := s.depth.onBottom
        lithology := s.log.current.lithology, rop := BitVec.ofNat 32 s.depth.rop
        sequence := BitVec.ofNat 32 s.log.current.sequence
        footage := #v[BitVec.ofNat 32 s.depth.footage[0], BitVec.ofNat 32 s.depth.footage[1],
          BitVec.ofNat 32 s.depth.footage[2], BitVec.ofNat 32 s.depth.footage[3]]
        epoch := s.node.epoch, result := s.directives.head }) ∧
    (s.cabRecord =
      { jobState := s.meter.job.state
        activity := BitVec.ofNat 3 (codeOf activityTable s.meter.activity)
        jobNumber := BitVec.ofNat 16 (s.meter.job.number.getD 0), epoch := s.node.epoch }) ∧
    (s.presenceRecord =
      { held := match s.node.node with
          | some c => c.held
          | none => .empty
        yielded := s.node.yielded, running := decide (s.node.state = .running)
        holding := s.holds.reasons.first, epoch := s.node.epoch }) ∧
    (s.holds.reasons.first = if s.holds.reasons.driller = true then some .driller
      else if s.holds.reasons.flowGain = true then some .flowGain
      else if s.holds.reasons.handlingFault = true then some .handlingFault
      else if s.holds.reasons.recovery = true then some .recovery else none) ∧
    (s.seq.stringOpen = true ↔ s.seq.state ≠ .idle ∧ (s.seq.step = some .breakJoint ∨
      s.seq.step = some .load ∨ s.seq.step = some .joint ∨ s.seq.step = some .lift ∨
      s.seq.step = some .drive)) ∧
    (∀ b : Int,
      (0 ≤ b → 10000 * litres b ≤ b + 5000 ∧ b + 5000 < 10000 * (litres b + 1)) ∧
      (b < 0 → litres b = -litres (-b)))

/-- The ends of a transmission: ARBITRATION_LOSS and BIT_FAULT, which give no frame (R29, R30, R32, R37), and
FRAME_COMPLETE (R7, R31, R39), where the count of faults is 0 and what the frame carried comes back as this
node's own arrival, stored and read like another station's; and what a frame sent or dropped leaves behind. -/
def Obligations.TransmissionsEnd : Prop :=
  ∀ (own : Station) (f : Frame) (s : State),
    let k := s.link
    let n := min 8 (k.faultCount + 1)
    let sent : State := { s with link := { k.disposed f with
      line := .busy, receiving := false, faultCount := 0 } }
    let hold : Prop := (∃ r, f = .holdSet r) ∨ f = .holdRelease
    (k.line ≠ .owner → exec .arbitrationLoss s = .next s ∧ exec .bitFault s = .next s ∧
      exec .frameComplete s = .next s) ∧
    (k.line = .owner → exec .arbitrationLoss s = .next { s with link := { k with
      line := .busy, receiving := true, sending := none
      holdFrame := k.holdWaiting.or k.holdFrame, holdWaiting := none } }) ∧
    (k.line = .owner → k.sending = some f → exec .bitFault s = .next { s with
      link := { k.disposed f with
        line := .busy, receiving := false, faultCount := n
        mute := if n = 8 then some .faultLimit else k.mute }
      causes := if n = 8 then s.causes ||| causeBit .linkMuted else s.causes }) ∧
    (k.line = .owner → k.sending = some f → s.station = some own →
      (hold → exec .frameComplete s = .next sent) ∧
      (∀ d, f = .directive d → exec .frameComplete s = .next (sent.routeDirective own d)) ∧
      (∀ p, f = .presence p → exec .frameComplete s = .next (sent.withPeers
        (put s.peers own { s.peers[own] with presence := ⟨.fresh, 0, some p⟩ })).settle) ∧
      (∀ a, f = .announce a →
        let stored := sent.withPeers (put s.peers own (s.peers[own].storeAnnouncement a))
        exec .frameComplete s = .next
          (if stored.owner (announcedRole a) = some own then stored.readArrival a
            else stored).settle)) ∧
    (hold → k.disposed f = { k with sending := none, holdFrame := k.holdWaiting, holdWaiting := none }) ∧
    (∀ d, f = .directive d → k.disposed f = { k with sending := none, queue := k.queue.tail }) ∧
    (∀ a, f = .announce a →
      k.disposed f = { k with sending := none, due := k.due.drop (announcedRole a) }) ∧
    (∀ p, f = .presence p →
      k.disposed f = { k with sending := none, due := { k.due with presence := false } })

/-- DIRECTIVE_RECEIVED and the routing of a directive (R9, R39, R40). The order of the checks is the model's
(log 15), and so is that of a code above 15 the result keeps the low four bits (log 34), and that the row changes
nothing while no frame is in reception (log 7). -/
def Obligations.DirectivesAreRouted : Prop :=
  ∀ (st : Station) (d : Directive) (s : State),
    let taken (r : Role) (reply : Reply) (s' : State) : State := { s' with
      directives := s'.directives.set r ⟨st, d.code.setWidth 4, BitVec.ofNat 8 (statusCode reply.status),
        if reply.status = .badValue then reply.body.headD 0#8 else 0#8⟩
      causes := if reply.status = .ok then s'.causes else s'.causes ||| causeBit .directiveRefused }
    let owns (r : Role) : Prop := s.station ≠ none ∧ s.owner r = s.station
    let suits : Prop := (d.role = 0#8 ∧ (d.code = 3#8 ∨ d.code = 4#8)) ∨
      (d.role = 1#8 ∧ d.code = 5#8) ∨
      (d.role = 2#8 ∧ (d.code = 0#8 ∨ d.code = 1#8 ∨ d.code = 2#8))
    let size := if d.code = 2#8 ∨ d.code = 5#8 then 0 else 1
    (s.link.receiving = true → s.station ≠ some st →
      exec (.directiveReceived st d) s = .next (s.receiverDone.routeDirective st d)) ∧
    (s.link.receiving = false → exec (.directiveReceived st d) s = .next s) ∧
    (3 ≤ d.role.toNat → s.routeDirective st d = s) ∧
    (∀ r : Role, d.role.toNat = codeOf roleTable r → r ≠ .cab →
      (¬ owns r → s.routeDirective st d = s) ∧
      (owns r →
        (s.holdsRole r = false → s.routeDirective st d = taken r ⟨.notRole, []⟩ s) ∧
        (s.holdsRole r = true → s.yields r = true →
          s.routeDirective st d = taken r ⟨.roleYielded, []⟩ s) ∧
        (s.active r = true → s.node.state ≠ .running →
          s.routeDirective st d = taken r ⟨.badState, []⟩ s) ∧
        (s.acts r = true → ¬ suits → s.routeDirective st d = taken r ⟨.badValue, [2#8]⟩ s) ∧
        (s.acts r = true → suits → d.arg.length ≠ size →
          s.routeDirective st d = taken r ⟨.badValue, [3#8]⟩ s) ∧
        (s.acts r = true → suits → d.arg.length = size →
          ∃ c : Instr, ∃ reply s', (c = .setLithology (d.arg.headD 0#8) ∧ r = .head ∧ d.code = 0#8 ∨
              c = .addRemark (d.arg.headD 0#8) ∧ r = .head ∧ d.code = 1#8 ∨
              c = .markWater ∧ r = .head ∧ d.code = 2#8 ∨
              c = .startPump (d.arg.headD 0#8) ∧ r = .mud ∧ d.code = 3#8 ∨
              c = .stopPump (d.arg.headD 0#8) ∧ r = .mud ∧ d.code = 4#8 ∨
              c = .stopTrip ∧ r = .handler ∧ d.code = 5#8) ∧
            exec c s = .next (s'.replied c reply) ∧ s'.port = s.port ∧
            s.routeDirective st d = taken r reply s')))

/-- FRAME_RECEIVE_ERROR and STATION_CLASH, and a frame of the other kinds that bears this node's own number
(R25, R27, R32). That the first two change nothing while no frame is in reception is the model's reading (log 7).
-/
def Obligations.ReceiveErrorsAndClashes : Prop :=
  ∀ (error : ReceiveError) (st : Station) (p : Presence) (a : Announcement) (reason : Byte)
      (d : Directive) (s : State),
    let clashed : State := { s with
      link := { s.link with receiving := false, mute := some .clash }
      causes := s.causes ||| causeBit .stationClash }
    (s.link.receiving = true →
      exec (.frameReceiveError error) s = .next { s with link := { s.link with
        receiving := false, errorCount := min 255 (s.link.errorCount + 1) } }) ∧
    (s.link.receiving = false →
      exec (.frameReceiveError error) s = .next s ∧ exec .stationClash s = .next s) ∧
    (s.link.receiving = true → s.station ≠ none → exec .stationClash s = .next clashed) ∧
    (s.link.receiving = true → s.station = some st →
      exec (.presenceReceived st p) s = .next clashed ∧
      exec (.announcementReceived st a) s = .next clashed ∧
      exec (.holdSetReceived st reason) s = .next clashed ∧
      exec (.holdReleaseReceived st) s = .next clashed ∧
      exec (.directiveReceived st d) s = .next clashed)

/-! ### Start-up, clock and resets (chapter 12) -/

/-- CONFIGURE (R176): the order of its refusals, and every group's values (R1, R53, R76, R90, R106, R120, R133,
R152, R167) stored as its table lays them out, or refused with the first field out of range. `ranges` lists a
group's fields in order, each with its width, least, greatest and given value. The field numbers of a bad NODE
group and of a group of the wrong length are the model's (log 20). -/
def Obligations.ConfigureTakesAGroup : Prop :=
  ∀ (group : Byte) (values : List Byte) (m : MudConfig) (h : HandlerConfig) (d : HeadConfig)
      (k : CabConfig) (s : State),
    let c := Instr.configure group values
    let stored (n : Node) : Host.Outcome State Fault Refusal :=
      .next (State.replied { s with node := n } c ⟨.ok, []⟩)
    let bad (field : Byte) : Host.Outcome State Fault Refusal :=
      .next (s.replied c ⟨.badValue, [field]⟩)
    let sizes : List Nat := [6, 38, 4, 14]
    let inRange (r : Nat × Nat × Nat × Nat) : Prop := r.2.1 ≤ r.2.2.2 ∧ r.2.2.2 ≤ r.2.2.1
    let takes (number : Byte) (ranges : List (Nat × Nat × Nat × Nat)) (n : Node) : Prop :=
      group = number → values = ranges.flatMap (fun r => be r.1 r.2.2.2) →
      (∀ r ∈ ranges, r.2.2.2 < 256 ^ r.1) →
      ((∀ r ∈ ranges, inRange r) → exec c s = stored n) ∧
      (∀ before r after, ranges = before ++ r :: after → (∀ q ∈ before, inRange q) → ¬ inRange r →
        exec c s = bad (BitVec.ofNat 8 (before.length + 2)))
    let area (i : Fin 4) : Nat × Nat × Nat × Nat :=
      if i.val < m.pits then (2, 1, 60000, m.areas[i]) else (2, 0, 65535, m.areas[i])
    let price (v : Nat) : Nat × Nat × Nat × Nat := (2, 0, 65535, v)
    let starts : List Nat := 0 :: k.windows.map (·.start + 1)
    (s.node.state ≠ .config → exec c s = .next (s.replied c ⟨.configLocked, []⟩)) ∧
    (s.node.state = .config →
      (5 ≤ group.toNat → exec c s = bad 1#8) ∧
      (∀ n, sizes[group.toNat]? = some n → values.length ≠ n → exec c s = bad 0#8) ∧
      (group = 4#8 → values.length < 33 ∨ 8 < numAt values 32 1 ∨
        values.length ≠ 33 + 4 * numAt values 32 1 → exec c s = bad 0#8) ∧
      (∀ station roles m3 m2 m1 m0 : Byte, group = 0#8 → values = [station, roles, m3, m2, m1, m0] →
        let mask : BitVec 32 := m3 ++ m2 ++ m1 ++ m0
        (8 ≤ station.toNat → exec c s = bad 2#8) ∧
        (station.toNat < 8 → roles = 0#8 ∨ 16 ≤ roles.toNat → exec c s = bad 3#8) ∧
        (station.toNat < 8 → 0 < roles.toNat → roles.toNat < 16 → 2 ^ 18 ≤ mask.toNat →
          exec c s = bad 4#8) ∧
        (∀ st : Station, station.toNat = st.val → 0 < roles.toNat → roles.toNat < 16 →
          mask.toNat < 2 ^ 18 →
          exec c s = stored { s.node with node := some ⟨st, ⟨roles.getLsbD 3, roles.getLsbD 2,
            roles.getLsbD 1, roles.getLsbD 0⟩, mask⟩ })) ∧
      takes 1#8 [(1, 1, 4, m.pits), area 0, area 1, area 2, area 3, (2, 1, 1000, m.waterFactor),
        (2, 0, 20000, m.steel), (4, 0, 200000, m.hole), (2, 0, 50000, m.deadband),
        (2, 1, 5000, m.gainThreshold), (2, 1, 5000, m.lossThreshold), (2, 1, 65535, m.displacement1),
        (2, 1, 65535, m.displacement2), (1, 50, 100, m.efficiency1), (1, 50, 100, m.efficiency2),
        (2, 1, 1000, m.returnsThreshold), (2, 50, 2000, m.bleedThreshold), (1, 1, m.pits, m.suctionPit),
        (2, 1, 24000, m.startWatermark), (2, 0, min 23999 (m.startWatermark - 1), m.lowWatermark)]
        { s.node with mud := some m } ∧
      takes 2#8 [(2, 50, 2000, h.wearLimit), (2, 10, 600, h.stepTimeout)]
        { s.node with handler := some h } ∧
      takes 3#8 [(4, 1, 2000000, d.travelCount), (2, 10, 10000, d.micronsPerCount),
        (2, 0, 3000, d.tableHeight), (2, 10, 1000, d.resyncTolerance), (2, 10, 500, d.bottomTolerance),
        (2, 500, 5000, d.intervalLength)] { s.node with head := some d } ∧
      (k.windows.length ≤ 8 → takes 4#8
        (k.timeRates.toList.map price ++ k.bandRates.toList.map price ++ k.additivePrices.toList.map price ++
          [price k.wearPrice, (1, 0, 8, k.windows.length)] ++ (k.windows.zip starts).flatMap fun w =>
            [(2, w.2, 1439, w.1.start), (2, 0, 1023, w.1.multiplier)])
        { s.node with cab := some k }))

/-- START (R177): what it needs, and all that LISTEN entry leaves: the timers, the roles yielded (R12), with what
their yields stop and drop (R13, R14), the own hold entry removed (R42), PRESENCE due (R35), the verify scan
begun over the numbers stored (R144). That position and end are absent after the scan of an empty store, which is
clean at once, and that the faulty number of an earlier scan is dropped, is the model's choice (log 37). -/
def Obligations.StartEntersListen : Prop :=
  ∀ (own : Station) (s : State),
    let ready : Prop := s.node.state = .config ∧ s.node.node ≠ none ∧
      (s.holdsRole .mud = true → s.node.mud ≠ none) ∧
      (s.holdsRole .handler = true → s.node.handler ≠ none) ∧
      (s.holdsRole .head = true → s.node.head ≠ none) ∧ (s.holdsRole .cab = true → s.node.cab ≠ none)
    let lower (r : Role) : Bool :=
      s.holdsRole r && stations.any fun st => decide (st < own) && s.peers[st].claims r
    let yielded : RoleSet := ⟨lower .mud, lower .handler, lower .head, lower .cab⟩
    let scans := s.holdsRole .head && !lower .head
    let g := s.log
    let due := s.link.due
    (¬ ready → exec .start s = .next (s.replied .start ⟨.badState, []⟩)) ∧
    (ready → s.station = some own → ∃ t : State, exec .start s = .next t ∧
      t.port = s.port.finish .start ⟨.ok, []⟩ ∧
      t.node = { s.node with state := .listen, yielded := yielded } ∧
      t.timers = { s.timers with
        listen := some (s.now + 250000), send := some (s.now + 62500)
        balance := if yielded.mud = true then none else s.timers.balance
        rop := if yielded.head = true then none else s.timers.rop
        second := if yielded.cab = true then none else s.timers.second
        scan := if scans = true then (if g.store = [] then none else some (s.now + 2500))
          else if yielded.head = true then none else s.timers.scan } ∧
      t.holds = { s.holds with others := put s.holds.others own none } ∧
      t.link = { s.link with due := { mud := due.mud && !yielded.mud
                                      handler := due.handler && !yielded.handler
                                      head := due.head && !yielded.head
                                      cab := due.cab && !yielded.cab, presence := true } } ∧
      (scans = false → yielded.head = false → t.log = g) ∧
      (yielded.head = true → t.log = { g with
        scan := if g.scan.state = .inFlight then ⟨.none, none, none, none⟩ else g.scan
        onBottom := false }) ∧
      (scans = true → g.store = [] → t.log = { g with scan := ⟨.clean, none, none, none⟩ }) ∧
      (scans = true → g.store ≠ [] → t.log = { g with scan :=
        ⟨.inFlight, some (g.current.sequence - g.store.length), some (g.current.sequence - 1), none⟩ }) ∧
      t.clock = s.clock ∧ t.time = s.time ∧ t.pins = s.pins ∧ t.peers = s.peers ∧
      t.directives = s.directives ∧ t.inventory = s.inventory ∧ t.seq = s.seq ∧ t.circ = s.circ ∧
      t.bal = s.bal ∧ t.depth = s.depth ∧ t.meter = s.meter ∧
      t.causes = s.causes |||
        (if yielded = .empty then 0#32 else causeBit .roleYielded) |||
        (if s.holds.others[own] = none then 0#32 else causeBit .holdChanged))

/-- LISTEN_TIMER_EXPIRY (R175, R178): RUNNING entry, block by block: RECOVER with its reason and hold frame (R43,
R87), the pumps found turning (R104), the home switch read (R122, R131), class and window taken (R154, R163),
the periods started (R108, R129, R154) and the announcements due (R35). All else is kept. R178 leaves open which
of the RECOVERY reason and the first class comes first; that the reason does is the model's choice (log 40). -/
def Obligations.RunningEntryStartsTheBlocks : Prop :=
  ∀ s : State,
    let running : State := { s with
      node := { s.node with state := .running }, timers := { s.timers with listen := none } }
    let recovered : State := match s.seq.marker with
      | some m => if s.holdsRole .handler = true then State.placeReason .recovery { running with
          seq := { s.seq with state := .recover, kind := m.kind, step := some m.step, slot := some m.slot
                              fault := none } }
        else running
      | none => running
    let turning (p : Pump) (u : State) : State :=
      if s.active .mud = true ∧ s.pins.pumpRun p = true then u.pumpTo p .failed else u
    let pumped := turning .two (turning .one recovered)
    let failed (p : PumpRecord) : PumpRecord := { p with state := .failed, timer := 0 }
    let sampled : Depth := { s.depth with prevDmax := s.depth.dmax }
    (s.node.state ≠ .listen → exec .listenTimerExpiry s = .next s) ∧
    (s.node.state = .listen → ∃ t : State, exec .listenTimerExpiry s = .next t ∧
      t.node = { s.node with state := .running } ∧
      t.timers = { s.timers with
        listen := none
        balance := if s.active .mud = true then some (s.now + 250000) else s.timers.balance
        rop := if s.active .head = true then some (s.now + 250000) else s.timers.rop
        second := if s.active .cab = true then some (s.now + 125000) else s.timers.second } ∧
      t.seq = recovered.seq ∧ t.holds = recovered.holds ∧
      t.link = { recovered.link with due := { mud := s.link.due.mud || s.active .mud
                                              handler := s.link.due.handler || s.active .handler
                                              head := s.link.due.head || s.active .head
                                              cab := s.link.due.cab || s.active .cab, presence := true } } ∧
      t.circ = pumped.circ ∧ t.causes = pumped.causes ∧
      t.circ.pump1 = (if s.active .mud = true ∧ s.pins.pump1Run = true then failed s.circ.pump1
        else s.circ.pump1) ∧
      t.circ.pump2 = (if s.active .mud = true ∧ s.pins.pump2Run = true then failed s.circ.pump2
        else s.circ.pump2) ∧
      (s.active .head = false ∨ s.node.head = none → t.depth = s.depth ∧ t.log = s.log) ∧
      (∀ c, s.active .head = true → s.node.head = some c →
        (s.pins.home = false → t.depth = sampled ∧ t.log = s.log) ∧
        (s.pins.home = true → s.depth.tracking = .unhomed →
          t.depth = { sampled with
            count := c.travelCount, onBottom := false
            tracking := if s.pins.headDrive = true then .resync else .frozen
            driveRise := if s.pins.headDrive = true then some s.now else s.depth.driveRise } ∧
          t.log = { s.log with onBottom := false }) ∧
        (s.pins.home = true → ∃ u, exec (.homeSwitchEdge true) { running with
            depth := sampled, pins := { s.pins with home := false } } = .next u ∧
          t.depth = u.depth ∧ t.log = u.log)) ∧
      (s.active .cab = false → t.meter = s.meter) ∧
      (∀ c, s.active .cab = true → s.node.cab = some c → t.meter = { s.meter with
        activity := t.activityClass
        window := s.clock.time.map fun now => c.inForce now.minute }) ∧
      t.clock = s.clock ∧ t.time = s.time ∧ t.pins = s.pins ∧ t.peers = s.peers ∧
      t.directives = s.directives ∧ t.inventory = s.inventory ∧ t.bal = s.bal ∧ t.port = s.port)

/-- SET_CLOCK and CLOCK_SECOND (R179); an advance of the minute keeps the minute that it left, for a second step
of the same instant (R155), which is the model's reading (log 29); TIME_BASE_STEP (R3, R42, R76, R91, R102, R135).
That the time base is brought to its next 100 ms whenever TIME_BASE_STEP is commanded, and that a timer's last
step is left to its expiry, is the model's (log 3, log 4), and so is that SET_CLOCK starts the second in progress anew (log 41). -/
def Obligations.ClockAndTimeBaseAdvance : Prop :=
  ∀ (day minute : BitVec 16) (second : Byte) (s : State),
    let c := Instr.setClock day minute second
    let n := 10 - s.time.sub / 1250
    (day.toNat = 65535 → exec c s = .next (s.replied c ⟨.badValue, [1#8]⟩)) ∧
    (day.toNat ≤ 65534 → 1440 ≤ minute.toNat →
      exec c s = .next (s.replied c ⟨.badValue, [2#8]⟩)) ∧
    (day.toNat ≤ 65534 → minute.toNat ≤ 1439 → 60 ≤ second.toNat →
      exec c s = .next (s.replied c ⟨.badValue, [3#8]⟩)) ∧
    (day.toNat ≤ 65534 → minute.toNat ≤ 1439 → second.toNat ≤ 59 →
      exec c s = .next (State.replied { s with
        clock := ⟨some ⟨day.toNat, minute.toNat, second.toNat⟩, none⟩
        timers := { s.timers with clock := some (s.now + 125000) } } c ⟨.ok, []⟩)) ∧
    (s.clock.time = none → exec .clockSecond s = .next s) ∧
    (∀ now : ClockTime, s.clock.time = some now →
      let next : ClockTime :=
        if now.second < 59 then { now with second := now.second + 1 }
        else if now.minute < 1439 then { now with second := 0, minute := now.minute + 1 }
        else if now.day < 65534 then ⟨now.day + 1, 0, 0⟩ else ⟨0, 0, 0⟩
      ∃ last, exec .clockSecond s = .next { s with
        clock := ⟨some next, last⟩
        timers := { s.timers with clock := some (s.now + 125000) } } ∧
        (now.second < 59 → last = none) ∧ (59 ≤ now.second → last = some (s.now, now.minute))) ∧
    exec .timeBaseStep s = .next { s with
      time := ⟨s.time.tenths + 1, 0⟩
      peers := s.peers.map (PeerEntry.aged n)
      holds := { s.holds with others := s.holds.others.map (Option.map (HoldEntry.aged n)) }
      seq := if s.stepTimerRuns = true ∧ 1 < s.seq.timer then
          { s.seq with timer := s.seq.timer - 1 } else s.seq
      circ := if s.acts .mud = true then
          { s.circ with pump1 := s.circ.pump1.tick, pump2 := s.circ.pump2.tick } else s.circ
      log := if s.acts .head = true ∧ s.log.onBottom = true then
          { s.log with current := s.log.current.tick } else s.log } ∧
    (∀ p : PumpRecord, p.tick = { p with
      timer := if 1 < p.timer then p.timer - 1 else p.timer
      tenths := if p.state = .running then (if p.tenths = 9 then 0 else p.tenths + 1) else p.tenths
      seconds := if p.state = .running ∧ p.tenths = 9 then min 4294967295 (p.seconds + 1)
        else p.seconds }) ∧
    (∀ iv : Interval, iv.tick = { iv with
      bottomTenths := if iv.bottomTenths = 9 then 0 else iv.bottomTenths + 1
      bottomSeconds := if iv.bottomTenths = 9 then min 4294967295 (iv.bottomSeconds + 1)
        else iv.bottomSeconds })

/-- RESET and POWER_ON_RESET (R180, R181) on any state: what is cleared, what is kept, the epoch, RETAINED_LOST.
Which memory survived is an operand (log 31); lines and time base are no reset's to change (log 3, log 10); the
line state UNKNOWN also after OWNER is the model's reading (log 46); the
values at State.reset that no reset table gives, such as the class, the window in force, the L last used and the
last imbalance, are the model's (log 11). -/
def Obligations.ResetsClearAndKeep : Prop :=
  ∀ (memoryKept : Bool) (s : State),
    let r := State.reset
    let kept : State := { r with
      node := { r.node with
        epoch := s.node.epoch + 1, marker := s.node.marker, foundInvalid := s.node.foundInvalid }
      clock := s.clock, time := s.time, timers := { r.timers with clock := s.timers.clock }
      pins := s.pins, inventory := { s.inventory with carousel := 0 }
      seq := { r.seq with
        makeups := s.seq.makeups, breakouts := s.seq.breakouts, marker := s.seq.marker }
      depth := { r.depth with
        d := s.depth.d, dmax := s.depth.dmax, advance := s.depth.advance, footage := s.depth.footage }
      log := { r.log with store := s.log.store, current := s.log.current, cursor := s.log.cursor }
      meter := { r.meter with job := s.meter.job }
      causes := s.causes &&& causeBit .retainedLost, pending := s.pending }
    exec .reset s = .next kept ∧
    (s.node.marker = true → memoryKept = true →
      exec (.powerOnReset memoryKept) s = .next { kept with
        node := { kept.node with foundInvalid := false }
        clock := ⟨none, none⟩, timers := r.timers, causes := 0#32 }) ∧
    (s.node.marker = false ∨ memoryKept = false →
      exec (.powerOnReset memoryKept) s =
        .next { r with time := s.time, pins := s.pins, pending := s.pending })

/-! ### Rods (chapter 4) -/

/-- REGISTER_ROD, UNREGISTER_ROD and APPEND_STRING (R52, R57, R61 to R64), their refusals in order. The answer of
UNREGISTER_ROD in the layout of R172 is the model's reading (log 16). -/
def Obligations.RodRecordsComeAndGo : Prop :=
  ∀ (slot kind : Byte) (id length count : BitVec 16) (s : State), s.acts .handler = true →
    let v := s.inventory
    let busy : Prop := s.seq.state ≠ .idle ∨ 0 < s.seq.plan.remaining
    let register := Instr.registerRod slot id kind length count
    let append := Instr.appendString id kind length count
    let rod (k : RodKind) : Rod :=
      ⟨id.toNat, k, length.toNat, count.toNat, .serviceable, s.clock.time.map (·.day)⟩
    let short : Prop := length.toNat < 100 ∨ 9999 < length.toNat
    (busy → exec register s = .next (s.replied register ⟨.busy, []⟩) ∧
      exec (.unregisterRod slot) s = .next (s.replied (.unregisterRod slot) ⟨.busy, []⟩) ∧
      exec append s = .next (s.replied append ⟨.busy, []⟩)) ∧
    (¬ busy →
      (60 ≤ slot.toNat → exec register s = .next (s.replied register ⟨.badValue, [1#8]⟩) ∧
        exec (.unregisterRod slot) s = .next (s.replied (.unregisterRod slot) ⟨.badValue, [1#8]⟩)) ∧
      (id = 0#16 → exec append s = .next (s.replied append ⟨.badValue, [1#8]⟩) ∧
        (slot.toNat < 60 → exec register s = .next (s.replied register ⟨.badValue, [2#8]⟩))) ∧
      (id ≠ 0#16 → 6 ≤ kind.toNat → exec append s = .next (s.replied append ⟨.badValue, [2#8]⟩) ∧
        (slot.toNat < 60 → exec register s = .next (s.replied register ⟨.badValue, [3#8]⟩))) ∧
      (id ≠ 0#16 → kind.toNat < 6 → short →
        exec append s = .next (s.replied append ⟨.badValue, [3#8]⟩) ∧
        (slot.toNat < 60 → exec register s = .next (s.replied register ⟨.badValue, [4#8]⟩))) ∧
      (∀ i : RackSlot, slot.toNat = i.val →
        (v.rack[i] = none →
          exec (.unregisterRod slot) s = .next (s.replied (.unregisterRod slot) ⟨.slotEmpty, []⟩)) ∧
        (∀ r, v.rack[i] = some r → exec (.unregisterRod slot) s = .next (State.replied
          { s with inventory := { v with rack := put v.rack i none } } (.unregisterRod slot)
          ⟨.ok, rodField (some r)⟩))) ∧
      (∀ k : RodKind, id ≠ 0#16 → kind.toNat = codeOf rodKindTable k → ¬ short →
        (∀ i : RackSlot, slot.toNat = i.val →
          (v.rack[i] ≠ none → exec register s = .next (s.replied register ⟨.slotOccupied, []⟩)) ∧
          (v.rack[i] = none → id.toNat ∈ v.ids →
            exec register s = .next (s.replied register ⟨.duplicateId, []⟩)) ∧
          (v.rack[i] = none → id.toNat ∉ v.ids →
            let v' := { v with rack := put v.rack i (some (rod k)) }
            exec register s = .next (State.replied { s with inventory := v' } register
              ⟨.ok, be 1 i.val ++ be 2 id.toNat ++ be 1 v'.serviceableCount⟩))) ∧
        (160 ≤ v.string.length → exec append s = .next (s.replied append ⟨.stringFull, []⟩)) ∧
        (v.string.length < 160 → id.toNat ∈ v.ids →
          exec append s = .next (s.replied append ⟨.duplicateId, []⟩)) ∧
        (v.string.length < 160 → id.toNat ∉ v.ids →
          let v' := { v with string := v.string ++ [rod k] }
          exec append s = .next (State.replied { s with inventory := v' } append
            ⟨.ok, be 1 (v.string.length + 1) ++ be 4 v'.length⟩))))

/-- SET_CAROUSEL and the carousel pulse (R55), CORRECT_TALLY and CLEAR_TALLY (R65), the string length (R66). -/
def Obligations.CarouselAndTallyAreSet : Prop :=
  ∀ (index : Byte) (offset : BitVec 16) (s : State),
    let v := s.inventory
    let busy : Prop := s.seq.state ≠ .idle ∨ 0 < s.seq.plan.remaining
    (s.acts .handler = true → busy →
      exec (.setCarousel index) s = .next (s.replied (.setCarousel index) ⟨.busy, []⟩)) ∧
    (s.acts .handler = true → ¬ busy → 60 ≤ index.toNat →
      exec (.setCarousel index) s = .next (s.replied (.setCarousel index) ⟨.badValue, [1#8]⟩)) ∧
    (∀ i : RackSlot, s.acts .handler = true → ¬ busy → index.toNat = i.val →
      exec (.setCarousel index) s = .next (State.replied
        { s with inventory := { v with carousel := i } } (.setCarousel index) ⟨.ok, [index]⟩)) ∧
    (∀ i : RackSlot, s.acts .handler = true →
      i.val = (if v.carousel.val = 59 then 0 else v.carousel.val + 1) →
      exec .carouselPulse s = .next { s with inventory := { v with carousel := i } }) ∧
    (s.acts .handler = false → exec .carouselPulse s = .next s) ∧
    (s.acts .handler = true → offset.toInt < -500 ∨ 500 < offset.toInt →
      exec (.correctTally offset) s = .next (s.replied (.correctTally offset) ⟨.badValue, [1#8]⟩)) ∧
    (s.acts .handler = true → -500 ≤ offset.toInt → offset.toInt ≤ 500 → v.string = [] →
      exec (.correctTally offset) s = .next (s.replied (.correctTally offset) ⟨.stringEmpty, []⟩)) ∧
    (s.acts .handler = true → -500 ≤ offset.toInt → offset.toInt ≤ 500 → v.string ≠ [] →
      let v' := { v with tally := offset.toInt, adjusted := true }
      exec (.correctTally offset) s =
        .next (State.replied { s with inventory := v' } (.correctTally offset) ⟨.ok, be 4 v'.length⟩)) ∧
    (s.acts .handler = true →
      let v' := { v with tally := 0, adjusted := false }
      exec .clearTally s =
        .next (State.replied { s with inventory := v' } .clearTally ⟨.ok, be 4 v'.length⟩)) ∧
    v.length = (((v.string.map (·.length)).sum : Int) + v.tally).toNat

/-! ### Handling cycles (chapter 5) -/

/-- MAKEUP and BREAKOUT (R60, R74, R76, R86): the refusals in order, the fixed slot, the step SLIPS entered, with
its entry check. -/
def Obligations.CyclesStart : Prop :=
  ∀ (i : RackSlot) (r : Rod) (s : State), s.acts .handler = true →
    let v := s.inventory
    let busy : Prop := s.seq.state ≠ .idle ∨ 0 < s.seq.plan.remaining
    let begun (k : CycleKind) : State := { s with seq := { s.seq with
      state := .active, kind := k, step := some .slips, slot := some i, fault := none
      timer := s.stepLoad, marker := some ⟨k, .slips, .active, i, v.transit.map (·.id)⟩ } }
    let serviceable (j : RackSlot) : Prop := ∃ r, v.rack[j] = some r ∧ r.status = .serviceable
    (busy → exec .makeup s = .next (s.replied .makeup ⟨.busy, []⟩) ∧
      exec .breakout s = .next (s.replied .breakout ⟨.busy, []⟩)) ∧
    (¬ busy → s.held = true → exec .makeup s = .next (s.replied .makeup ⟨.held, []⟩) ∧
      exec .breakout s = .next (s.replied .breakout ⟨.held, []⟩)) ∧
    (¬ busy → s.held = false →
      ((∀ j, ¬ serviceable j) → exec .makeup s = .next (s.replied .makeup ⟨.rackEmpty, []⟩)) ∧
      ((∃ j, serviceable j) → 160 ≤ v.string.length →
        exec .makeup s = .next (s.replied .makeup ⟨.stringFull, []⟩)) ∧
      (serviceable i → (∀ j : RackSlot, j - v.carousel < i - v.carousel → ¬ serviceable j) →
        v.string.length < 160 → v.rack[i] = some r →
        exec .makeup s = .next ((begun .makeup).settle.replied .makeup
          ⟨.ok, [1#8] ++ be 1 i.val ++ be 2 r.id⟩)) ∧
      (v.string = [] → exec .breakout s = .next (s.replied .breakout ⟨.stringEmpty, []⟩)) ∧
      (v.string ≠ [] → (∀ j : RackSlot, v.rack[j] ≠ none) →
        exec .breakout s = .next (s.replied .breakout ⟨.rackFull, []⟩)) ∧
      (v.string.getLast? = some r → v.rack[i] = none →
        (∀ j : RackSlot, j - v.carousel < i - v.carousel → v.rack[j] ≠ none) →
        exec .breakout s = .next ((begun .breakout).settle.replied .breakout
          ⟨.ok, [2#8] ++ be 1 i.val ++ be 2 r.id⟩))) ∧
    (∀ k, s.pins.slipsSet = false → (begun k).settle = begun k) ∧
    (∀ c, s.node.handler = some c → s.stepLoad = c.stepTimeout * 10)

/-- TRIP_IN, TRIP_OUT (R81) and RESUME (R51): refusals in order, clamping, the first or next cycle started. -/
def Obligations.TripsStartAndResume : Prop :=
  ∀ (n : Byte) (s : State), s.acts .handler = true →
    let v := s.inventory
    let p := s.seq.plan
    let busy : Prop := s.seq.state ≠ .idle ∨ 0 < p.remaining
    let inCount := min n.toNat (min v.serviceableCount (160 - v.string.length))
    let outCount := min n.toNat (min v.emptyCount v.string.length)
    let planned (k : CycleKind) (count : Nat) : TripPlan := ⟨k, count, false, false, none⟩
    let starts (k : CycleKind) (plan : TripPlan) (c : Instr) (count : Nat) : Prop :=
      ∃ u, ({ s with seq := { s.seq with plan := plan } } : State).startCycle k = .ok u ∧
        exec c s = .next (u.settle.replied c ⟨.ok, be 1 count⟩) ∧
        u.seq.plan = plan ∧ u.seq.state = .active ∧ u.seq.kind = k ∧ u.seq.step = some .slips ∧
        u.seq.slot = (if k = .makeup then v.makeupSlot else v.storeSlot) ∧ u.inventory = v
    let resumed : TripPlan := { p with holdPause := false }
    (busy → exec (.tripIn n) s = .next (s.replied (.tripIn n) ⟨.busy, []⟩) ∧
      exec (.tripOut n) s = .next (s.replied (.tripOut n) ⟨.busy, []⟩)) ∧
    (¬ busy → s.held = true → exec (.tripIn n) s = .next (s.replied (.tripIn n) ⟨.held, []⟩) ∧
      exec (.tripOut n) s = .next (s.replied (.tripOut n) ⟨.held, []⟩)) ∧
    (¬ busy → s.held = false →
      (n = 0#8 ∨ 160 < n.toNat →
        exec (.tripIn n) s = .next (s.replied (.tripIn n) ⟨.badValue, [1#8]⟩) ∧
        exec (.tripOut n) s = .next (s.replied (.tripOut n) ⟨.badValue, [1#8]⟩)) ∧
      (0 < n.toNat → n.toNat ≤ 160 →
        (v.serviceableCount = 0 →
          exec (.tripIn n) s = .next (s.replied (.tripIn n) ⟨.rackEmpty, []⟩)) ∧
        (0 < v.serviceableCount → 160 ≤ v.string.length →
          exec (.tripIn n) s = .next (s.replied (.tripIn n) ⟨.stringFull, []⟩)) ∧
        (0 < inCount → starts .makeup (planned .makeup inCount) (.tripIn n) inCount) ∧
        (v.string = [] → exec (.tripOut n) s = .next (s.replied (.tripOut n) ⟨.stringEmpty, []⟩)) ∧
        (v.string ≠ [] → v.emptyCount = 0 →
          exec (.tripOut n) s = .next (s.replied (.tripOut n) ⟨.rackFull, []⟩)) ∧
        (0 < outCount → starts .breakout (planned .breakout outCount) (.tripOut n) outCount))) ∧
    (s.held = true → exec .resume s = .next (s.replied .resume ⟨.held, []⟩)) ∧
    (s.held = false → p.holdPause = false → exec .resume s = .next (s.replied .resume ⟨.badState, []⟩)) ∧
    (s.held = false → p.holdPause = true →
      (s.seq.state ≠ .idle → exec .resume s = .next (State.replied
        { s with seq := { s.seq with plan := resumed } } .resume ⟨.ok, be 1 p.remaining⟩)) ∧
      (s.seq.state = .idle → p.kind = .makeup →
        (v.serviceableCount = 0 → exec .resume s = .next (s.replied .resume ⟨.rackEmpty, []⟩)) ∧
        (0 < v.serviceableCount → 160 ≤ v.string.length →
          exec .resume s = .next (s.replied .resume ⟨.stringFull, []⟩)) ∧
        (0 < v.serviceableCount → v.string.length < 160 →
          starts .makeup resumed .resume p.remaining)) ∧
      (s.seq.state = .idle → p.kind = .breakout →
        (v.string = [] → exec .resume s = .next (s.replied .resume ⟨.stringEmpty, []⟩)) ∧
        (v.string ≠ [] → v.emptyCount = 0 →
          exec .resume s = .next (s.replied .resume ⟨.rackFull, []⟩)) ∧
        (v.string ≠ [] → 0 < v.emptyCount → starts .breakout resumed .resume p.remaining)))

/-- STOP_TRIP (R83), as a request and as a directive: the plan's count to 0 and both marks clear, never refused
for a hold or a cycle; a completion that finds the count at 0 starts nothing. That the ended plan keeps its kind is
the model's choice (log 47). -/
def Obligations.StopTripEndsThePlan : Prop :=
  ∀ (source : Station) (s : State),
    let p := s.seq.plan
    let ended : State := { s with seq := { s.seq with plan :=
      { p with remaining := 0, faultPause := false, holdPause := false } } }
    let d : Directive := ⟨1#8, 5#8, []⟩
    (s.active .handler = true → s.node.state ≠ .running →
      exec .stopTrip s = .next (s.replied .stopTrip ⟨.badState, []⟩)) ∧
    (s.acts .handler = true →
      exec .stopTrip s = .next (ended.replied .stopTrip ⟨.ok, be 1 p.remaining⟩)) ∧
    (s.acts .handler = true → s.owner .handler = s.station →
      s.routeDirective source d = { ended with directives := { s.directives with
        handler := some ⟨source, 5#4, 0#8, 0#8⟩ } }) ∧
    (p.remaining = 0 → p.faultPause = false → p.holdPause = false → ended = s) ∧
    ended.completeCycle.seq.state = .idle ∧ ended.completeCycle.seq.plan = ended.seq.plan

/-- RETRY_STEP, ABORT (R78, R79) and STEP_TIMER_EXPIRY (R76, R77). That an expiry of a timer that stands, or that
has not come to its last step, has no effect is the model's (log 4), and so are that a hold-paused plan is not
fault-paused (log 36) and that a plan which ABORT ends keeps its kind (log 47). -/
def Obligations.FaultedCyclesGoOnOrEnd : Prop :=
  ∀ (st : Step) (i : RackSlot) (s : State), s.acts .handler = true →
    let q := s.seq
    let p := q.plan
    let marked (state : SeqState) : Option CycleMarker :=
      some ⟨q.kind, st, state, i, s.inventory.transit.map (·.id)⟩
    let calm := s.removeReason .handlingFault
    let ended : TripPlan := { p with remaining := 0, faultPause := false, holdPause := false }
    let retried : State := { calm with seq := { q with
      state := .active, fault := none, timer := s.stepLoad
      lockedMark := if st = .breakJoint then false else q.lockedMark
      plan := if p.faultPause = true then
        { p with faultPause := false, holdPause := p.holdPause || calm.held } else p
      marker := marked .active } }
    let before : State := if q.state = .faulted then calm else s
    let idle : Sequencer := { q with
      state := .idle, kind := .none, step := none, slot := none, fault := none, marker := none
      plan := ended }
    let cycle : Prop := q.step = some st ∧ q.slot = some i
    (q.state ≠ .faulted → exec .retryStep s = .next (s.replied .retryStep ⟨.badState, []⟩)) ∧
    (cycle → q.state = .faulted → exec .retryStep s = .next (retried.settle.replied .retryStep
      ⟨.ok, codeByte stepTable retried.settle.seq.step⟩)) ∧
    (q.state ≠ .active → q.state ≠ .faulted →
      exec .abort s = .next (s.replied .abort ⟨.badState, []⟩)) ∧
    (cycle → q.state = .active ∨ q.state = .faulted → s.inventory.transit = none →
      exec .abort s = .next (State.replied { before with seq := idle } .abort
        ⟨.ok, [0#8] ++ be 1 p.remaining⟩)) ∧
    (cycle → q.state = .active ∨ q.state = .faulted → s.inventory.transit ≠ none →
      exec .abort s = .next (State.replied
        { before with seq := { q with
          state := .transitHeld, fault := none, plan := ended, marker := marked .transitHeld } }
        .abort ⟨.ok, [3#8] ++ be 1 p.remaining⟩)) ∧
    (cycle → s.stepTimerRuns = true → q.timer ≤ 1 →
      exec .stepTimerExpiry s = .next (State.placeReason .handlingFault { s with
      seq := { q with
        state := .faulted, fault := some .timeout, timer := 0, marker := marked .faulted
        plan := { p with faultPause := p.faultPause || (decide (0 < p.remaining) && !p.holdPause) } }
      causes := s.causes ||| causeBit .stepTimeout })) ∧
    (s.stepTimerRuns = false ∨ 1 < q.timer → exec .stepTimerExpiry s = .next s) ∧
    (cycle → (s.stepTimerRuns = true ↔ q.state = .active ∧ s.held = false ∧
      (st ≠ .breakJoint ∨ s.breakoutPermit = true))) ∧
    (s.breakoutPermit = true ↔ q.state = .active ∧ q.step = some .breakJoint ∧ s.held = false ∧
      q.lockedMark = true ∧ (∃ m, freshContent s.mudView = some m) ∧
      ∃ h, freshContent s.headView = some h ∧
        (h.tracking = .tracking ∨ h.tracking = .resync ∨ h.onBottom = false))

/-- RESOLVE_TRANSIT (R80) and CONFIRM_RECOVERY (R88). -/
def Obligations.TransitAndRecoveryAreResolved : Prop :=
  ∀ (destination slot : Byte) (s : State), s.acts .handler = true →
    let v := s.inventory
    let q := s.seq
    let c := Instr.resolveTransit destination slot
    let open_ : Prop := q.state = .transitHeld ∨ (q.state = .recover ∧ v.transit ≠ none)
    let idle : Sequencer := { q with
      state := .idle, kind := .none, step := none, slot := none, fault := none, marker := none }
    let after : Sequencer := if q.state = .recover then
        { q with marker := q.marker.map fun m => { m with rod := none } } else idle
    (¬ open_ → exec c s = .next (s.replied c ⟨.badState, []⟩)) ∧
    (open_ →
      (2 ≤ destination.toNat → exec c s = .next (s.replied c ⟨.badValue, [1#8]⟩)) ∧
      (destination = 0#8 → 60 ≤ slot.toNat → exec c s = .next (s.replied c ⟨.badValue, [2#8]⟩)) ∧
      (∀ (i : RackSlot) (r : Rod), destination = 0#8 → slot.toNat = i.val → v.transit = some r →
        (v.rack[i] ≠ none → exec c s = .next (s.replied c ⟨.slotOccupied, []⟩)) ∧
        (v.rack[i] = none →
          let v' := { v with rack := put v.rack i (some r), transit := none }
          exec c s = .next (State.replied { s with inventory := v', seq := after } c
            ⟨.ok, [0#8, 1#8] ++ be 1 i.val ++ be 4 v'.length⟩))) ∧
      (∀ r : Rod, destination = 1#8 → v.transit = some r →
        (160 ≤ v.string.length → exec c s = .next (s.replied c ⟨.stringFull, []⟩)) ∧
        (v.string.length < 160 →
          let v' := { v with string := v.string ++ [r], transit := none }
          exec c s = .next (State.replied { s with inventory := v', seq := after } c
            ⟨.ok, [1#8, 0#8] ++ be 4 v'.length⟩)))) ∧
    (q.state ≠ .recover →
      exec .confirmRecovery s = .next (s.replied .confirmRecovery ⟨.badState, []⟩)) ∧
    (q.state = .recover → v.transit ≠ none →
      exec .confirmRecovery s = .next (s.replied .confirmRecovery ⟨.transitOccupied, []⟩)) ∧
    (q.state = .recover → v.transit = none →
      exec .confirmRecovery s = .next ((State.removeReason .recovery { s with seq := idle }).replied
        .confirmRecovery ⟨.ok, []⟩))

/-- HANDLER_INPUT_CHANGE and the end of a step (R58, R70 to R72, R75, R77, R82): the line takes its level; a step
ends exactly when its condition holds; its move is made whole or faults the cycle; then the next step is
entered, or the cycle completes and the trip plan goes on. A rod wears at the limit of the HANDLER group (R53).
Of two missing conditions of a move R58 names no first; the order is the model's (log 38), and so is that a plan
which ends keeps its kind (log 47). -/
def Obligations.StepsEndOnTheirConditions : Prop :=
  ∀ (input : HandlerInput) (level : Level) (i : RackSlot) (s : State),
    let q := s.seq
    let v := s.inventory
    let p := q.plan
    let moves (st : Step) (result : Except Status Inventory) : Prop :=
      q.step = some st → s.stepMove st = result
    let entered (st next : Step) (v' : Inventory) : Prop :=
      q.step = some st → q.slot = some i → s.stepMove st = .ok v' →
        s.endStep = { s with inventory := v', seq := { q with
          step := some next, timer := s.stepLoad
          lockedMark := if next = .breakJoint then false else q.lockedMark
          marker := some ⟨q.kind, next, q.state, i, v'.transit.map (·.id)⟩ } }
    let completed : Sequencer := { q with
      state := .idle, kind := .none, step := none, slot := none, fault := none, marker := none
      makeups := if q.kind = .makeup then min 4294967295 (q.makeups + 1) else q.makeups
      breakouts := if q.kind = .breakout then min 4294967295 (q.breakouts + 1) else q.breakouts }
    let onward : TripPlan := { p with remaining := p.remaining - 1 }
    exec (.handlerInputChange input level) s =
      .next ({ s with pins := s.pins.setHandler input level } : State).settle ∧
    (s.acts .handler = false ∨ q.state ≠ .active ∨ s.stepCondition = false → s.settle = s) ∧
    (s.acts .handler = true → q.state = .active → s.stepCondition = true →
      s.settle = s.endStep.settleSteps 5) ∧
    (s.stepCondition = true ↔
      (q.step = some .slips ∧ s.pins.slipsSet = true) ∨
      (q.step = some .breakJoint ∧ s.pins.jointFree = true ∧ s.breakoutPermit = true) ∨
      (q.step = some .load ∧ s.pins.rodInLoader = true) ∨
      (q.step = some .joint ∧ s.pins.jointMade = true) ∨
      (q.step = some .lift ∧ s.pins.rodInLoader = true) ∨
      (q.step = some .drive ∧ s.pins.handlerDrive = true) ∨
      (q.step = some .store ∧ s.pins.rodStored = true) ∨
      (q.step = some .release ∧ s.pins.slipsSet = false)) ∧
    (∀ r, q.slot = some i → v.rack[i] = some r → v.transit = none →
      moves .load (.ok { v with rack := put v.rack i none, transit := some r })) ∧
    (∀ r, v.transit = some r → v.string.length < 160 →
      moves .joint (.ok { v with
        transit := none
        string := v.string ++ [{ r with
          makeups := min 65535 (r.makeups + 1)
          status := if s.wearLimit ≤ min 65535 (r.makeups + 1) then .worn else r.status }] })) ∧
    (∀ r below, v.string = below ++ [r] → v.transit = none →
      moves .lift (.ok { v with
        string := below, transit := some r
        tally := if below = [] then 0 else v.tally
        adjusted := if below = [] then false else v.adjusted })) ∧
    (∀ r, q.slot = some i → v.transit = some r → v.rack[i] = none →
      moves .store (.ok { v with rack := put v.rack i (some r), transit := none })) ∧
    (∀ c, s.node.handler = some c → s.wearLimit = c.wearLimit) ∧
    (q.slot = some i →
      (v.rack[i] = none → moves .load (.error .slotEmpty)) ∧
      (v.rack[i] ≠ none → v.transit ≠ none → moves .load (.error .transitOccupied)) ∧
      (v.transit = none → moves .store (.error .transitEmpty)) ∧
      (v.transit ≠ none → v.rack[i] ≠ none → moves .store (.error .slotOccupied))) ∧
    (v.transit = none → moves .joint (.error .transitEmpty)) ∧
    (v.transit ≠ none → 160 ≤ v.string.length → moves .joint (.error .stringFull)) ∧
    (v.string = [] → moves .lift (.error .stringEmpty)) ∧
    (v.string ≠ [] → v.transit ≠ none → moves .lift (.error .transitOccupied)) ∧
    (∀ st code, q.step = some st → s.stepMove st = .error code →
      s.endStep = s.cycleFault (.moveRefused code)) ∧
    entered .slips .breakJoint v ∧
    (q.kind = .makeup → ∀ v', entered .breakJoint .load v ∧ entered .load .joint v' ∧
      entered .joint .drive v' ∧ entered .drive .release v) ∧
    (q.kind = .breakout → ∀ v', entered .breakJoint .lift v ∧ entered .lift .drive v' ∧
      entered .drive .store v ∧ entered .store .release v') ∧
    (q.step = some .release →
      (p.remaining = 0 → s.endStep = { s with seq := completed }) ∧
      (p.remaining = 1 → s.endStep = { s with seq := { completed with plan :=
        { p with remaining := 0, faultPause := false, holdPause := false } } }) ∧
      (1 < p.remaining → p.holdPause = true ∨ s.held = true →
        s.endStep = { s with seq := { completed with plan := { onward with holdPause := true } } }) ∧
      (1 < p.remaining → p.holdPause = false → s.held = false →
        let next : State := { s with seq := { completed with plan := onward } }
        (∀ u, next.startCycle p.kind = .ok u → s.endStep = u) ∧
        (∀ code, next.startCycle p.kind = .error code →
          s.endStep = { s with seq := { completed with plan :=
            { p with remaining := 0, faultPause := false, holdPause := false
                     endCause := some code } } })))

/-! ### Circulation (chapter 6) -/

/-- START_PUMP and STOP_PUMP (R91 to R94, R98 to R100): refusals in order, the state entered, and what entering a
pump state does to the pump's timer, to PUMP_FAILED and to the circulation state. A rise that comes together with
the stop finds the pump STOPPING; that such a rise is one waiting in the queue ahead of the next 100 ms step is
the model's choice (log 42). -/
def Obligations.PumpRequestsMoveThePump : Prop :=
  ∀ (b : Byte) (n : Pump) (s : State), s.acts .mud = true →
    let r := s.circ.pump n
    let begin_ := Instr.startPump b
    let end_ := Instr.stopPump b
    let rising : Prop := ∃ ahead behind,
      s.pending = ahead ++ .pumpRunningChange n true :: behind ∧ .timeBaseStep ∉ ahead
    let closed : Prop := ∃ a, freshContent s.handlerView = some a ∧ a.stringOpen = false
    let filled : Prop := ∃ c v, s.node.mud = some c ∧ s.suctionVolume = some v ∧ c.startWatermark ≤ v
    let startable : Prop := s.held = false ∧ s.circ.state ≠ .locked ∧ closed ∧ filled
    (b ≠ 1#8 → b ≠ 2#8 → exec begin_ s = .next (s.replied begin_ ⟨.badValue, [1#8]⟩) ∧
      exec end_ s = .next (s.replied end_ ⟨.badValue, [1#8]⟩)) ∧
    (b = pumpNumber n →
      (s.held = true → exec begin_ s = .next (s.replied begin_ ⟨.held, []⟩)) ∧
      (s.held = false → s.circ.state = .locked →
        exec begin_ s = .next (s.replied begin_ ⟨.locked, []⟩)) ∧
      (s.held = false → s.circ.state ≠ .locked → ¬ closed →
        exec begin_ s = .next (s.replied begin_ ⟨.handlerOpen, []⟩)) ∧
      (s.held = false → s.circ.state ≠ .locked → closed → ¬ filled →
        exec begin_ s = .next (s.replied begin_ ⟨.suctionLow, []⟩)) ∧
      (startable → r.state ≠ .off ∨ s.pins.pumpRun n = true →
        exec begin_ s = .next (s.replied begin_ ⟨.badState, []⟩)) ∧
      (startable → r.state = .off → s.pins.pumpRun n = false →
        exec begin_ s = .next ((s.pumpTo n .starting).replied begin_ ⟨.ok, [1#8]⟩)) ∧
      (r.state = .starting ∨ r.state = .running → s.pins.pumpRun n = true ∨ rising →
        exec end_ s = .next ((s.pumpTo n .stopping).replied end_ ⟨.ok, [3#8]⟩)) ∧
      (r.state = .starting ∨ r.state = .running → s.pins.pumpRun n = false → ¬ rising →
        exec end_ s = .next (((s.pumpTo n .stopping).pumpTo n .off).replied end_ ⟨.ok, [0#8]⟩)) ∧
      (r.state = .failed → exec end_ s = .next ((s.pumpTo n .off).replied end_ ⟨.ok, [0#8]⟩)) ∧
      (r.state = .off ∨ r.state = .stopping →
        exec end_ s = .next (s.replied end_ ⟨.badState, []⟩)))

/-- PUMP_RUNNING_CHANGE and PUMP_TIMER_EXPIRY (R91), and the entry into a pump state (R91, R94, R98, R99). That an
expiry of a timer that does not run, or has not come to its last step, has no effect is the model's (log 4), and so
are what comes together with a stop (log 42) and the bled count outside BLEEDING (log 44). -/
def Obligations.PumpEventsMoveThePump : Prop :=
  ∀ (n : Pump) (level : Level) (new : PumpState) (s : State),
    let r := s.circ.pump n
    let lined : State := { s with pins := s.pins.setPumpRun n level }
    let change := exec (.pumpRunningChange n level) s
    let c := s.circ.setPump n
      { r with state := new, timer := if new = .starting ∨ new = .stopping then 100 else 0 }
    let permitted : Prop := c.pump1.state = .starting ∨ c.pump1.state = .running ∨
      c.pump2.state = .starting ∨ c.pump2.state = .running
    let stopping : Prop := c.pump1.state = .stopping ∨ c.pump2.state = .stopping
    let rising : Prop := ∃ ahead behind,
      s.pending = ahead ++ .pumpRunningChange n true :: behind ∧ .timeBaseStep ∉ ahead
    let entered (k : Circulation) : Prop := s.pumpTo n new = { s with
      circ := k
      causes := if new = .failed then s.causes ||| causeBit .pumpFailed else s.causes }
    (s.acts .mud = false ∨ level = s.pins.pumpRun n → change = .next lined) ∧
    (s.acts .mud = true → level ≠ s.pins.pumpRun n →
      (r.state = .off → level = true → change = .next (lined.pumpTo n .failed)) ∧
      (r.state = .starting → level = true → change = .next (lined.pumpTo n .running)) ∧
      (r.state = .running → level = false → change = .next (lined.pumpTo n .failed)) ∧
      (r.state = .stopping → level = false → change = .next (lined.pumpTo n .off)) ∧
      (r.state = .off ∧ level = false ∨ r.state = .starting ∧ level = false ∨
        r.state = .running ∧ level = true ∨ r.state = .stopping ∧ level = true ∨
        r.state = .failed → change = .next lined)) ∧
    (s.acts .mud = true → r.state = .starting ∨ r.state = .stopping → r.timer ≤ 1 →
      exec (.pumpTimerExpiry n) s = .next (s.pumpTo n .failed)) ∧
    (s.acts .mud = false ∨ r.state = .off ∨ r.state = .running ∨ r.state = .failed ∨ 1 < r.timer →
      exec (.pumpTimerExpiry n) s = .next s) ∧
    (s.circ.state = .stopped → new = .starting → entered { c with state := .priming }) ∧
    (s.circ.state = .stopped → new ≠ .starting → entered c) ∧
    (s.circ.state = .locked → entered c) ∧
    (s.circ.state = .priming ∨ s.circ.state = .circulating → permitted → entered c) ∧
    (s.circ.state = .priming ∨ s.circ.state = .circulating → ¬ permitted →
      entered { c with state := .bleeding, bled := 0, absent := 0, returnsAbsent := false }) ∧
    (s.circ.state = .bleeding → new = .starting → entered { c with state := .priming, bled := 0 }) ∧
    (s.circ.state = .bleeding → new ≠ .starting → c.bled = 2 → ¬ stopping →
      entered { c with state := .stopped }) ∧
    (s.circ.state = .bleeding → new ≠ .starting → c.bled ≠ 2 ∨ stopping → entered c) ∧
    (s.pins.pumpRun n = true ∨ rising → s.pumpStopping n = s.pumpTo n .stopping) ∧
    (s.pins.pumpRun n = false → ¬ rising → s.pumpStopping n = (s.pumpTo n .stopping).pumpTo n .off)

/-- UNLOCK (R96), CONFIRM_BLED (R98), ADD_ADDITIVE (R103). That UNLOCK answers HANDLER_HEARD in every circulation state
while the handler is heard is the model's reading (log 43), and that the bled count stays at CONFIRM_BLED its
choice (log 44). -/
def Obligations.CirculationRequestsAreTaken : Prop :=
  ∀ (kind : Byte) (units : BitVec 16) (k : Fin 4) (s : State), s.acts .mud = true →
    let c := Instr.addAdditive kind units
    let heard : Prop := ∃ st, s.owner .handler = some st ∧
      (s.peers[st].handler.freshness = .fresh ∨ s.peers[st].handler.freshness = .stale)
    let stopping : Prop := s.circ.pump1.state = .stopping ∨ s.circ.pump2.state = .stopping
    let total := min 4294967295 (s.circ.additives[k] + units.toNat)
    let stopped : State := { s with circ := { s.circ with state := .stopped } }
    (heard → exec .unlock s = .next (s.replied .unlock ⟨.handlerHeard, []⟩)) ∧
    (¬ heard → s.circ.state ≠ .locked →
      exec .unlock s = .next (s.replied .unlock ⟨.badState, []⟩)) ∧
    (¬ heard → s.circ.state = .locked → exec .unlock s = .next (stopped.replied .unlock ⟨.ok, []⟩)) ∧
    (s.circ.state ≠ .bleeding ∨ stopping →
      exec .confirmBled s = .next (s.replied .confirmBled ⟨.badState, []⟩)) ∧
    (s.circ.state = .bleeding → ¬ stopping →
      exec .confirmBled s = .next (stopped.replied .confirmBled ⟨.ok, []⟩)) ∧
    (4 ≤ kind.toNat → exec c s = .next (s.replied c ⟨.badValue, [1#8]⟩)) ∧
    (kind.toNat < 4 → units = 0#16 ∨ 999 < units.toNat →
      exec c s = .next (s.replied c ⟨.badValue, [2#8]⟩)) ∧
    (kind.toNat = k.val → 0 < units.toNat → units.toNat ≤ 999 → exec c s = .next (State.replied
      { s with circ := { s.circ with additives := put s.circ.additives k total } } c
      ⟨.ok, be 4 total⟩))

/-- RETURN_PULSE, STROKE_PULSE, WATER_PULSE (R99, R101, R111), PRESSURE_SAMPLE (R97, R98) and PIT_LEVEL_SAMPLE
(R100, R107). A pump that low suction stops goes as a STOP_PUMP takes it (log 42); the bled count at the end of a
bleed-down is the model's choice (log 44). -/
def Obligations.MudInputsAreCounted : Prop :=
  ∀ (n : Pump) (channel : Fin 4) (valid : Bool) (value : BitVec 16) (s : State),
    let inputs : List Instr := [.returnPulse, .strokePulse n, .waterPulse, .pressureSample valid value,
      .pitLevelSample channel valid value]
    let k := s.circ
    let sound : Prop := valid = true ∧ value.toNat ≤ 40000
    let pressed : Circulation := if sound then { k with pressure := value.toNat, heldSamples := 0 }
      else { k with heldSamples := min 5 (k.heldSamples + 1) }
    let stopping : Prop := k.pump1.state = .stopping ∨ k.pump2.state = .stopping
    let pit := s.bal.pits[channel]
    let record : PitRecord := if valid = true ∧ value.toNat ≤ 4000 then
        ⟨some value.toNat, false, pit.holdEnded || pit.held, pit.inUse⟩
      else { pit with held := true }
    let sampled : State := { s with bal := { s.bal with pits := put s.bal.pits channel record } }
    let halt (p : Pump) (t : State) : State :=
      if (s.circ.pump p).state = .starting ∨ (s.circ.pump p).state = .running then t.pumpStopping p
      else t
    (s.acts .mud = false → ∀ c ∈ inputs, exec c s = .next s) ∧
    (s.acts .mud = true →
      exec .returnPulse s =
        .next { s with circ := { k with returns := min 65535 (k.returns + 1) } } ∧
      exec (.strokePulse .one) s =
        .next { s with circ := { k with strokes1 := min 65535 (k.strokes1 + 1) } } ∧
      exec (.strokePulse .two) s =
        .next { s with circ := { k with strokes2 := min 65535 (k.strokes2 + 1) } } ∧
      exec .waterPulse s =
        .next { s with bal := { s.bal with water := min 65535 (s.bal.water + 1) } }) ∧
    (∀ c : MudConfig, s.acts .mud = true → s.node.mud = some c →
      let good : Prop := sound ∧ value.toNat ≤ c.bleedThreshold
      let pressure := exec (.pressureSample valid value) s
      let level := exec (.pitLevelSample channel valid value) s
      (k.state ≠ .bleeding → pressure = .next { s with circ := pressed }) ∧
      (k.state = .bleeding → ¬ good → pressure = .next { s with circ := { pressed with bled := 0 } }) ∧
      (k.state = .bleeding → good → k.bled = 0 →
        pressure = .next { s with circ := { pressed with bled := 1 } }) ∧
      (k.state = .bleeding → good → 1 ≤ k.bled → stopping →
        pressure = .next { s with circ := { pressed with bled := 2 } }) ∧
      (k.state = .bleeding → good → 1 ≤ k.bled → ¬ stopping →
        pressure = .next { s with circ := { pressed with bled := 2, state := .stopped } }) ∧
      (c.pits ≤ channel.val → level = .next s) ∧
      (channel.val < c.pits → s.suctionLow = true ∨ sampled.suctionLow = false →
        level = .next sampled) ∧
      (channel.val < c.pits → s.suctionLow = false → sampled.suctionLow = true →
        level = .next (halt .two (halt .one
          { sampled with causes := s.causes ||| causeBit .lowSuction }))) ∧
      (∀ i : Fin 4, c.suctionPit = i.val + 1 →
        (s.bal.pits[i].level = none → s.suctionLow = false) ∧
        (∀ h, s.bal.pits[i].level = some h →
          (s.suctionLow = true ↔ h * c.areas[i] / 10000 < c.lowWatermark))))

/-! ### Volume balance (chapter 7) -/

/-- BALANCE_PERIOD_EXPIRY (R99, R101, R108 to R117): returns and flow-in, then the imbalance stage by stage, the
window, the condition, the totals, BALANCE_ALARM, and FLOW_GAIN placed as LocalReasonsChange says a local reason
is (R116). -/
def Obligations.BalancePeriodsAreComputed : Prop :=
  ∀ (c : MudConfig) (s : State), s.node.mud = some c →
    let b := s.bal
    let view := freshContent s.headView
    let active := c.activePits
    let lost : Prop := ∃ i ∈ active, b.pits[i].held = true ∨ b.pits[i].holdEnded = true
    let change (i : Fin 4) : Int := if b.pits[i].held = true ∨ b.pits[i].holdEnded = true then 0
      else ((b.pits[i].level.getD 0 : Int) - (b.pits[i].inUse.getD 0 : Int)) * c.areas[i]
    let used : Option HeadAnnounce :=
      if b.depthHeld = true ∨ b.prevOwner ≠ s.owner .head then none else view
    let depthChange : Int := (used.map fun a => (a.d.toNat : Int) - b.prevD).getD 0
    let holeChange : Int := (used.map fun a => ((a.dmax.toNat - b.prevH : Nat) : Int)).getD 0
    let nSteel := depthChange * c.steel + b.steelResidue
    let nHole := holeChange * c.hole + b.holeResidue
    let water : Int := (b.water : Int) * c.waterFactor * 10
    let exact := (active.map change).sum - water - nSteel.tdiv 100 + nHole.tdiv 100
    let e := if 2000000000 < exact then 2000000000 else if exact < -2000000000 then -2000000000 else exact
    (s.acts .mud = false → exec .balancePeriodExpiry s = .next s) ∧
    (s.acts .mud = true → ∃ t : State, exec .balancePeriodExpiry s = .next t ∧
      t.timers = { s.timers with balance := some (s.now + 250000) } ∧
      t.circ.flowIn = (s.circ.strokes1 * c.displacement1 * c.efficiency1 / 100 +
        s.circ.strokes2 * c.displacement2 * c.efficiency2 / 100) * 30 / 1000 ∧
      t.circ.returns = 0 ∧ t.circ.strokes1 = 0 ∧ t.circ.strokes2 = 0 ∧
      (s.circ.state = .priming → c.returnsThreshold ≤ s.circ.returns →
        t.circ.state = .circulating ∧ t.circ.absent = 0 ∧
        t.circ.returnsAbsent = s.circ.returnsAbsent) ∧
      (s.circ.state = .circulating → c.returnsThreshold ≤ s.circ.returns →
        t.circ.state = .circulating ∧ t.circ.absent = 0 ∧ t.circ.returnsAbsent = false) ∧
      (s.circ.state = .circulating → s.circ.returns < c.returnsThreshold →
        t.circ.state = .circulating ∧ t.circ.absent = min 5 (s.circ.absent + 1) ∧
        t.circ.returnsAbsent = (s.circ.returnsAbsent || decide (4 ≤ s.circ.absent))) ∧
      (s.circ.state = .priming ∧ s.circ.returns < c.returnsThreshold ∨ s.circ.state = .stopped ∨
        s.circ.state = .locked ∨ s.circ.state = .bleeding →
        t.circ.state = s.circ.state ∧ t.circ.absent = s.circ.absent ∧
        t.circ.returnsAbsent = s.circ.returnsAbsent) ∧
      t.bal.last = e ∧ t.bal.lastSaturated = decide (e ≠ exact) ∧
      t.bal.window = put b.window b.position ⟨e, decide (lost ∨ used = none)⟩ ∧
      t.bal.position = b.position + 1 ∧ t.bal.sum = b.sum - b.window[b.position].value + e ∧
      t.bal.steelResidue = nSteel - 100 * nSteel.tdiv 100 ∧
      t.bal.holeResidue = nHole - 100 * nHole.tdiv 100 ∧ t.bal.water = 0 ∧
      (∀ a, view = some a → t.bal.prevD = a.d.toNat ∧ t.bal.prevH = a.dmax.toNat ∧
        t.bal.depthHeld = false ∧ t.bal.prevOwner = s.owner .head) ∧
      (view = none → t.bal.prevD = b.prevD ∧ t.bal.prevH = b.prevH ∧
        t.bal.prevOwner = b.prevOwner ∧ t.bal.depthHeld = true) ∧
      (∀ i : Fin 4, t.bal.pits[i] =
        if i ∈ active ∧ b.pits[i].held = false then
          { b.pits[i] with holdEnded := false, inUse := b.pits[i].level }
        else b.pits[i]) ∧
      (8 ≤ t.bal.degradedCount →
        t.bal.announced = .degraded ∧ t.bal.underlying = b.underlying) ∧
      (t.bal.degradedCount < 8 → t.bal.announced = t.bal.underlying ∧
        t.bal.underlying = judgeCondition c t.bal.sum b.underlying) ∧
      t.bal.gainTotal = (if (c.deadband : Int) * 10 < e then
        min 42949672959 (b.gainTotal + e.natAbs) else b.gainTotal) ∧
      t.bal.lossTotal = (if e < -((c.deadband : Int) * 10) then
        min 42949672959 (b.lossTotal + e.natAbs) else b.lossTotal) ∧
      t.causes = s.causes |||
        (if t.circ.returnsAbsent = true ∧ s.circ.returnsAbsent = false then causeBit .returnsAbsent
          else 0#32) |||
        (if t.bal.underlying ≠ b.underlying ∧ t.bal.underlying ≠ .normal then causeBit .balanceAlarm
          else 0#32) |||
        (if t.bal.underlying = .gain ∧ b.underlying ≠ .gain ∧ s.holds.reasons.flowGain = false then
          causeBit .holdChanged else 0#32) ∧
      (let placed := if t.bal.underlying = .gain ∧ b.underlying ≠ .gain then s.placeReason .flowGain else s
       t.holds = placed.holds ∧ t.link = placed.link ∧ t.seq = placed.seq) ∧
      t.circ = { s.circ with
        state := t.circ.state, absent := t.circ.absent, returnsAbsent := t.circ.returnsAbsent
        flowIn := t.circ.flowIn, returns := 0, strokes1 := 0, strokes2 := 0 } ∧
      t.time = s.time ∧ t.directives = s.directives ∧
      t.inventory = s.inventory ∧ t.depth = s.depth ∧ t.log = s.log ∧ t.meter = s.meter ∧
      t.node = s.node ∧ t.clock = s.clock ∧ t.pins = s.pins ∧ t.peers = s.peers ∧ t.port = s.port) ∧
    (∀ sum : Int,
      let low : Prop := sum ≤ -((c.lossThreshold : Int) * 10000)
      let high : Prop := (c.gainThreshold : Int) * 10000 ≤ sum
      judgeCondition c sum .normal = (if low then .loss else if high then .gain else .normal) ∧
      judgeCondition c sum .loss = (if high then .gain
        else if 2 * sum.natAbs < c.lossThreshold * 10000 then .normal else .loss) ∧
      judgeCondition c sum .gain = (if low then .loss
        else if 2 * sum.natAbs < c.gainThreshold * 10000 then .normal else .gain))

/-! ### Depth tracking (chapter 8) -/

/-- ENCODER_LINE_CHANGE, HOME_SWITCH_EDGE and HEAD_DRIVE_CHANGE (R121 to R128). Which sense of the quadrature
cycle is upward is a free value, `pins.upSense` (log 12). That the rebase which clears a jump takes its L as the L
last used is the model's reading (log 22), and that a change of the count applies no limit of 500 mm, even where a
new HANDLER owner named without an arrival brings another L, is its choice (log 45). -/
def Obligations.TrackerInputsAreTaken : Prop :=
  ∀ (a b closed level : Level) (c : HeadConfig) (s : State),
    let t := s.depth
    let encoder : State := { s with pins := { s.pins with encA := a, encB := b } }
    let homing : State := { s with pins := { s.pins with home := closed } }
    let driving : State := { s with pins := { s.pins with headDrive := level } }
    let lengthNow := match lastHeard s.handlerView with
      | some h => h.length.toNat
      | none => t.lastL
    let depthAt (count : Nat) := lengthNow - (count * c.micronsPerCount / 1000 + c.tableHeight)
    let judged (u : State) (v : Depth) : State :=
      let bottom := decide (v.tracking = .tracking ∧ v.dmax ≤ v.d + c.bottomTolerance ∧ v.rotation ≠ none)
      { u with depth := { v with onBottom := bottom }, log := { u.log with onBottom := bottom } }
    let moved := if upSense s a b = true then min c.travelCount (t.count + 1) else t.count - 1
    let rebased (v : Depth) (d : Nat) : Depth :=
      { v with d := d, advance := max v.advance d, jumpHeld := false
               lastL := if v.jumpHeld = true then lengthNow else v.lastL }
    let acting : Prop := s.acts .head = true ∧ s.node.head = some c
    (s.acts .head = false ∨ t.tracking = .unhomed ∨ (a = s.pins.encA ∧ b = s.pins.encB) →
      exec (.encoderLineChange a b) s = .next encoder) ∧
    (acting → t.tracking ≠ .unhomed → a ≠ s.pins.encA → b ≠ s.pins.encB →
      exec (.encoderLineChange a b) s = .next (judged
        { encoder with causes := s.causes ||| causeBit .encoderFault }
        { t with tracking := .unhomed, jumpHeld := false, driveRise := none })) ∧
    (acting → t.tracking ≠ .unhomed → (a = s.pins.encA ↔ b ≠ s.pins.encB) →
      (moved = t.count → exec (.encoderLineChange a b) s = .next encoder) ∧
      (moved ≠ t.count → t.tracking ≠ .tracking →
        exec (.encoderLineChange a b) s = .next (judged encoder { t with count := moved })) ∧
      (moved ≠ t.count → t.tracking = .tracking → t.jumpHeld = true →
        exec (.encoderLineChange a b) s =
          .next (judged encoder (rebased { t with count := moved } (depthAt moved)))) ∧
      (moved ≠ t.count → t.tracking = .tracking → t.jumpHeld = false →
        let u := ({ encoder with depth := { t with count := moved } } : State).advanceTo (depthAt moved)
        exec (.encoderLineChange a b) s = .next (judged u u.depth))) ∧
    (s.acts .head = false ∨ closed = s.pins.home →
      exec (.homeSwitchEdge closed) s = .next homing) ∧
    (acting → closed ≠ s.pins.home →
      let v : Depth := { t with count := c.travelCount }
      exec (.homeSwitchEdge closed) s = .next (judged homing (match t.tracking with
        | .unhomed => { v with
          tracking := if s.pins.headDrive = true then .resync else .frozen
          driveRise := if s.pins.headDrive = true then some s.now else v.driveRise }
        | .tracking => rebased v (depthAt c.travelCount)
        | .frozen | .resync => v))) ∧
    (s.acts .head = false ∨ level = s.pins.headDrive →
      exec (.headDriveChange level) s = .next driving) ∧
    (acting → level ≠ s.pins.headDrive →
      exec (.headDriveChange level) s = .next (judged driving (match t.tracking with
        | .tracking => if level = true then t else { t with tracking := .frozen, jumpHeld := false }
        | .resync => if level = true then t else { t with tracking := .frozen, driveRise := none }
        | .frozen => if level = true then { t with tracking := .resync, driveRise := some s.now } else t
        | .unhomed => t))) ∧
    (upSense s a b = true ↔
      ((if s.pins.encA ≠ a then a ≠ s.pins.encB else b = s.pins.encA) ↔ s.pins.upSense = true))

/-- A HANDLER owner arrival at the tracker (R124 to R126), and a new D taken as drilling (R124, R138). -/
def Obligations.TrackerReadsArrivals : Prop :=
  ∀ (c : HeadConfig) (a : HandlerAnnounce) (d : Nat) (s : State),
    let t := s.depth
    let l := a.length.toNat
    let at_ := l - (t.count * c.micronsPerCount / 1000 + c.tableHeight)
    let resync : Prop := ∃ r, t.driveRise = some r ∧ r + 525 ≤ s.now ∧ a.stringOpen = false
    let mismatched : State := { s with
      causes := s.causes ||| causeBit .depthMismatch
      log := { s.log with current := { s.log.current with
        flags := { s.log.current.flags with depthMismatch := true } } } }
    let rebased (u : State) : State := State.judgeBottom c { u with depth := { t with
      d := at_, advance := max t.advance at_, tracking := .tracking, driveRise := none, lastL := l } }
    let band := bandIndex (bandOf s.log.current.lithology)
    let growth := d - t.advance
    (t.tracking = .unhomed ∨ t.tracking = .frozen → s.depthHandlerArrival c a = s) ∧
    (t.tracking = .resync → ¬ resync → s.depthHandlerArrival c a = s) ∧
    (t.tracking = .resync → resync →
      ((at_ : Int) - t.d).natAbs ≤ c.resyncTolerance → s.depthHandlerArrival c a = rebased s) ∧
    (t.tracking = .resync → resync →
      c.resyncTolerance < ((at_ : Int) - t.d).natAbs → s.depthHandlerArrival c a = rebased mismatched) ∧
    (t.tracking = .tracking → l = t.lastL ∨ t.jumpHeld = true → s.depthHandlerArrival c a = s) ∧
    (t.tracking = .tracking → l ≠ t.lastL → t.jumpHeld = false → t.d + 500 < at_ →
      s.depthHandlerArrival c a =
        State.judgeBottom c { mismatched with depth := { t with jumpHeld := true } }) ∧
    (t.tracking = .tracking → l ≠ t.lastL → t.jumpHeld = false → at_ ≤ t.d + 500 →
      s.depthHandlerArrival c a =
        (State.advanceTo at_ { s with depth := { t with lastL := l } }).judgeBottom c) ∧
    (d ≤ t.advance → s.advanceTo d = { s with depth := { t with d := d } }) ∧
    (t.advance < d → s.advanceTo d = State.logRise t.dmax (t.dmax + growth) { s with depth := { t with
      d := d, dmax := t.dmax + growth, advance := d
      footage := put t.footage band (min 4294967295 (t.footage[band] + growth)) } }) ∧
    ((s.judgeBottom c) = { s with
      depth := { t with onBottom := (s.judgeBottom c).depth.onBottom }
      log := { s.log with onBottom := (s.judgeBottom c).depth.onBottom } } ∧
      ((s.judgeBottom c).depth.onBottom = true ↔
        t.tracking = .tracking ∧ t.dmax ≤ t.d + c.bottomTolerance ∧ t.rotation ≠ none))

/-- ROTATION_PULSE, ROTATION_WAIT_EXPIRY (R128, R135) and ROP_SAMPLE_EXPIRY (R129). A pulse taken before a wait that
ends with it starts the second anew; that a wait commanded early has no effect is the model's (log 4). -/
def Obligations.RotationAndRopAreSampled : Prop :=
  ∀ (c : HeadConfig) (s : State),
    let t := s.depth
    let events : List Instr := [.rotationPulse, .rotationWaitExpiry, .ropSampleExpiry]
    let iv := s.log.current
    let sampled : Depth := if t.onBottom = true then
        { t with
          ring := put t.ring t.ringPos (t.dmax - t.prevDmax), ringPos := t.ringPos + 1
          filled := min 30 (t.filled + 1), prevDmax := t.dmax }
      else { t with prevDmax := t.dmax }
    (s.acts .head = false → ∀ e ∈ events, exec e s = .next s) ∧
    (s.acts .head = true → s.node.head = some c →
      exec .rotationPulse s = .next (State.judgeBottom c { s with
        depth := { t with rotation := some s.now }
        log := { s.log with current := { iv with
          revolutions := min 4294967295 (iv.revolutions + 1) } } }) ∧
      (∀ r, t.rotation = some r → r + 125000 ≤ s.now → exec .rotationWaitExpiry s =
        .next (State.judgeBottom c { s with depth := { t with rotation := none } })) ∧
      ((∀ r, t.rotation = some r → s.now < r + 125000) → exec .rotationWaitExpiry s = .next s) ∧
      exec .ropSampleExpiry s = .next { s with
        depth := sampled, timers := { s.timers with rop := some (s.now + 250000) } }) ∧
    (t.filled = 0 → t.rop = 0) ∧
    (0 < t.filled → 2 * t.filled * t.rop ≤ 60 * t.ring.toList.sum + t.filled ∧
      60 * t.ring.toList.sum + t.filled < 2 * t.filled * (t.rop + 1))

/-! ### Strata log (chapter 9) -/

/-- NEW_HOLE (R127, R140), SET_LITHOLOGY (R139), ADD_REMARK and MARK_WATER (R136), a rise of the hole depth (R138).
That a close also needs numbers to give, and that a reclassification writes a lower part the store takes and keeps
the grid base of the upper part, is the model's reading (log 18, log 19). -/
def Obligations.LogRequestsAreTaken : Prop :=
  ∀ (code : Byte) (kind : Lithology) (c : HeadConfig) (old new : Nat) (s : State),
    s.acts .head = true → s.node.head = some c →
    let g := s.log
    let iv := g.current
    let parts := if iv.lower = none then 1 else 2
    let room (n : Nat) : Prop :=
      g.store.length + n ≤ 400 ∧ g.latch = false ∧ iv.sequence + n ≤ 4294967295
    let at_ (current : Interval) : State := { s with log := { g with current := current } }
    let set := Instr.setLithology code
    let emptied : Prop := ∃ a, freshContent s.handlerView = some a ∧ a.entries = 0#8
    let hole : State := { s with depth := { s.depth with
      dmax := 0, advance := 0, ring := Vector.replicate 30 0, ringPos := 0, filled := 0, prevDmax := 0 } }
    let opened (sequence depth : Nat) (k : Lithology) (tenths : Nat) : Interval :=
      { sequence := sequence, gridBase := depth, top := depth, lithology := k
        jobNumber := s.openJobNumber, openTime := s.timeStamp, bottomSeconds := 0, bottomTenths := tenths
        revolutions := 0, baseline := s.mudBaseline, flags := .none, remarks := [], lower := none }
    let fault (f : StrataFlags) : StrataFlags :=
      { f with overrun := true, storeFault := f.storeFault || g.latch }
    let boundary := iv.gridBase + ((old - iv.gridBase) / c.intervalLength + 1) * c.intervalLength
    let outcome (n : Byte) : Reply := ⟨.ok, [n]⟩
    (¬ emptied → exec .newHole s = .next (s.replied .newHole ⟨.stringNotEmpty, []⟩)) ∧
    (emptied → exec .newHole s =
      .next (((hole.logNewHole s.depth.dmax).judgeBottom c).replied .newHole ⟨.ok, []⟩)) ∧
    (old ≤ iv.top → iv.lower = none →
      s.logNewHole old = at_ (opened iv.sequence 0 iv.lithology 0)) ∧
    (∀ lower, old ≤ iv.top → iv.lower = some lower → room 1 →
      (s.logNewHole old).log.store = g.store ++ [⟨iv.sequence, lower, recordCrc iv.sequence lower⟩] ∧
      (s.logNewHole old).log.current = opened (iv.sequence + 1) 0 iv.lithology 0 ∧
      (s.logNewHole old).log.discards = g.discards) ∧
    (old ≤ iv.top → iv.lower ≠ none → ¬ room 1 → s.logNewHole old = { s with log := { g with
      discards := min 255 (g.discards + 1), current := opened iv.sequence 0 iv.lithology 0 } }) ∧
    (iv.top < old → room parts → s.logNewHole old = s.closeInterval old 0 iv.lithology) ∧
    (iv.top < old → ¬ room parts → s.logNewHole old = { s with log := { g with
      discards := min 255 (g.discards + parts), current := opened iv.sequence 0 iv.lithology 0 } }) ∧
    (16 ≤ code.toNat → exec set s = .next (s.replied set ⟨.badValue, [1#8]⟩)) ∧
    (code.toNat = codeOf lithologyTable kind →
      (s.depth.dmax ≤ iv.top → iv.lower = none ∨ ¬ room 1 →
        exec set s = .next ((at_ { iv with lithology := kind }).replied set (outcome 0#8))) ∧
      (s.depth.dmax ≤ iv.top → iv.lower ≠ none → room 1 → ∃ t : State,
        exec set s = .next t ∧ t.port = s.port.finish set (outcome 0#8) ∧
        t.log.current = { iv with sequence := iv.sequence + 1, lower := none, lithology := kind } ∧
        ∃ r, t.log.store = g.store ++ [r] ∧ r.sequence = iv.sequence ∧ some r.body = iv.lower ∧
          r.crc = recordCrc r.sequence r.body) ∧
      (iv.top < s.depth.dmax → room parts →
        exec set s = .next ((s.closeInterval s.depth.dmax s.depth.dmax kind).replied set
          (outcome 1#8))) ∧
      (iv.top < s.depth.dmax → ¬ room parts → iv.lower = none →
        exec set s = .next (State.replied
          (at_ { opened iv.sequence s.depth.dmax kind iv.bottomTenths with
            gridBase := iv.gridBase
            flags := fault { StrataFlags.none with storeFault := iv.flags.storeFault }
            lower := some (s.closedBody s.depth.dmax) }) set (outcome 2#8))) ∧
      (iv.top < s.depth.dmax → ¬ room parts → iv.lower ≠ none →
        exec set s = .next ((at_ { iv with lithology := kind }).replied set (outcome 0#8)))) ∧
    (code = 0#8 →
      exec (.addRemark code) s = .next (s.replied (.addRemark code) ⟨.badValue, [1#8]⟩)) ∧
    (code ≠ 0#8 → 4 ≤ iv.remarks.length →
      exec (.addRemark code) s = .next (s.replied (.addRemark code) ⟨.remarksFull, []⟩)) ∧
    (code ≠ 0#8 → iv.remarks.length < 4 → exec (.addRemark code) s = .next (State.replied
      (at_ { iv with remarks := iv.remarks ++ [code] }) (.addRemark code)
      ⟨.ok, be 1 (iv.remarks.length + 1)⟩)) ∧
    (exec .markWater s = .next (State.replied
      (at_ { iv with flags := { iv.flags with water := true } }) .markWater ⟨.ok, []⟩)) ∧
    (¬ (old < boundary ∧ boundary ≤ new) → s.logRise old new = s) ∧
    (old < boundary → boundary ≤ new → room parts →
      s.logRise old new = s.closeInterval boundary boundary iv.lithology) ∧
    (old < boundary → boundary ≤ new → ¬ room parts →
      s.logRise old new = at_ { iv with flags := fault iv.flags })

/-- A close the store takes (R134, R137): the records written, with numbers, figures and CRC, and the interval
opened behind them. Gain and loss are counted from the baseline, and from 0 with MUD_GAP set where the baseline
is absent or a figure stands below it. -/
def Obligations.ClosesWriteRecords : Prop :=
  ∀ (bottom depth : Nat) (kind : Lithology) (s : State),
    let g := s.log
    let iv := g.current
    let parts := if iv.lower = none then 1 else 2
    let t := s.closeInterval bottom depth kind
    let body := s.closedBody bottom
    let mud := lastHeard s.mudView
    t = { s with
      log := { g with store := t.log.store, current := t.log.current }
      causes := if g.store.length < 360 ∧ 360 ≤ g.store.length + parts then
          s.causes ||| causeBit .storeNearFull else s.causes } ∧
    (iv.lower = none →
      t.log.store = g.store ++ [⟨iv.sequence, body, recordCrc iv.sequence body⟩]) ∧
    (∀ lower, iv.lower = some lower →
      t.log.store = g.store ++ [⟨iv.sequence, lower, recordCrc iv.sequence lower⟩,
        ⟨iv.sequence + 1, body, recordCrc (iv.sequence + 1) body⟩]) ∧
    t.log.current = { sequence := iv.sequence + parts, gridBase := depth, top := depth, lithology := kind
                      jobNumber := s.openJobNumber, openTime := s.timeStamp, bottomSeconds := 0
                      bottomTenths := iv.bottomTenths, revolutions := 0, baseline := s.mudBaseline
                      flags := .none, remarks := [], lower := none } ∧
    s.mudBaseline = mud.map (fun a => ⟨a.gain.toNat, a.loss.toNat, a.epoch⟩) ∧
    body.jobNumber = iv.jobNumber ∧ body.top = iv.top ∧ body.bottom = bottom ∧
    body.lithology = iv.lithology ∧ body.band = bandOf iv.lithology ∧ body.openTime = iv.openTime ∧
    body.closeTime = s.timeStamp ∧ body.bottomSeconds = iv.bottomSeconds ∧
    body.revolutions = iv.revolutions ∧ body.remarks = iv.remarks ∧
    body.flags = { iv.flags with mudGap := body.flags.mudGap } ∧
    (iv.bottomSeconds = 0 → body.meanRop = 0) ∧
    (0 < iv.bottomSeconds →
      2 * iv.bottomSeconds * body.meanRop ≤ 120 * (bottom - iv.top) + iv.bottomSeconds ∧
      120 * (bottom - iv.top) + iv.bottomSeconds < 2 * iv.bottomSeconds * (body.meanRop + 1)) ∧
    (mud = none → body.mudGain = 0 ∧ body.mudLoss = 0 ∧ body.flags.mudGap = true) ∧
    (∀ a, mud = some a → iv.baseline = none →
      body.mudGain = a.gain.toNat ∧ body.mudLoss = a.loss.toNat ∧ body.flags.mudGap = true) ∧
    (∀ a b, mud = some a → iv.baseline = some b →
      body.mudGain = (if b.gain ≤ a.gain.toNat then a.gain.toNat - b.gain else a.gain.toNat) ∧
      body.mudLoss = (if b.loss ≤ a.loss.toNat then a.loss.toNat - b.loss else a.loss.toNat) ∧
      (body.flags.mudGap = true ↔ iv.flags.mudGap = true ∨ a.gain.toNat < b.gain ∨
        a.loss.toNat < b.loss ∨ freshContent s.mudView = none))

/-- TRIM (R142), FETCH_RECORD (R143), VERIFY and VERIFY_SCAN_STEP (R144, R145). A record's number is its place in
the run that ends below the open interval's (R141): that is its own sequence field in a contiguous store, and
the model's choice in a damaged one (log 37). That position and end are absent after the scan of an empty store, and
stay at the last record checked and the old end after any other, is the model's choice too, and so is that a new
scan drops the faulty number of the one before (log 37). A form above 2 is refused with BAD_VALUE by the model's
choice (log 17). -/
def Obligations.StoreRequestsAreTaken : Prop :=
  ∀ (n : BitVec 16) (form : Byte) (sequence : BitVec 32) (r : StrataRecord) (s : State),
    let g := s.log
    let trim := Instr.trim n
    let fetch := Instr.fetchRecord form sequence
    let left := g.store.drop n.toNat
    let oldest := g.current.sequence - g.store.length
    let number := if form = 0#8 then oldest else if form = 1#8 then g.cursor else sequence.toNat
    let k := g.scan
    let scan (scan : Scan) (latch : Bool) (timer : Option Nat) : State :=
      { s with log := { g with scan := scan, latch := latch }, timers := { s.timers with scan := timer } }
    (s.acts .head = true →
      (k.state = .inFlight → exec trim s = .next (s.replied trim ⟨.storeBusy, []⟩) ∧
        exec .verify s = .next (s.replied .verify ⟨.storeBusy, []⟩)) ∧
      (k.state ≠ .inFlight → n = 0#16 ∨ g.store.length < n.toNat →
        exec trim s = .next (s.replied trim ⟨.badValue, [1#8]⟩)) ∧
      (k.state ≠ .inFlight → 0 < n.toNat → n.toNat ≤ g.store.length →
        exec trim s = .next (State.replied
          { s with log := { g with store := left, cursor := max g.cursor (g.current.sequence - left.length) } } trim
          ⟨.ok, be 2 (g.store.length - n.toNat)⟩)) ∧
      (k.state ≠ .inFlight → g.store = [] → exec .verify s =
        .next ((scan ⟨.clean, none, none, none⟩ g.latch none).replied .verify ⟨.ok, [0#8, 0#8]⟩)) ∧
      (k.state ≠ .inFlight → g.store ≠ [] →
        exec .verify s = .next ((scan ⟨.inFlight, some oldest, some (g.current.sequence - 1), none⟩
          g.latch (some (s.now + 2500))).replied .verify ⟨.ok, be 2 g.store.length⟩))) ∧
    (s.active .head = true →
      (3 ≤ form.toNat → exec fetch s = .next (s.replied fetch ⟨.badValue, [1#8]⟩)) ∧
      (form.toNat < 3 → g.record number = none →
        exec fetch s = .next (s.replied fetch ⟨.noSuchRecord, []⟩)) ∧
      (form.toNat < 3 → g.record number = some r → exec fetch s = .next (State.replied
        { s with log := { g with cursor := number + 1 } } fetch ⟨.ok, recordField r⟩))) ∧
    (∀ p, g.record p = if oldest ≤ p then g.store[p - oldest]? else none) ∧
    (∀ p, g.contiguous → g.record p = some r → r.sequence = p) ∧
    (k.state ≠ .inFlight → exec .verifyScanStep s = .next s) ∧
    (∀ p, k.state = .inFlight → k.position = some p → g.record p = some r →
      (recordCrc r.sequence r.body = r.crc → k.last = some p →
        exec .verifyScanStep s = .next (scan { k with state := .clean } g.latch none)) ∧
      (recordCrc r.sequence r.body = r.crc → k.last ≠ some p →
        exec .verifyScanStep s =
          .next (scan { k with position := some (p + 1) } g.latch (some (s.now + 2500)))) ∧
      (recordCrc r.sequence r.body ≠ r.crc → exec .verifyScanStep s =
        .next (State.raise .storeFault
          (scan { k with state := .fault, faulty := some p } true none)))) ∧
    (recordField r).length = 51

/-! ### Job metering (chapter 10) -/

/-- OPEN_JOB, SUSPEND_JOB, RESUME_JOB, CLOSE_JOB and FETCH_SUMMARY (R148 to R151). A baseline is the counter of an
owner view that is FRESH or STALE, and pending without owner or while the view is UNHEARD or LOST. -/
def Obligations.JobsOpenAndClose : Prop :=
  ∀ (number : BitVec 16) (s : State),
    let j := s.meter.job
    let open_ := Instr.openJob number
    let job (j' : JobRecord) : State := { s with meter := { s.meter with job := j' } }
    let fresh : JobRecord :=
      { State.reset.meter.job with
        number := some number.toNat, state := .opened, openTime := s.timeStamp
        baselines := s.freshBaselines }
    let busy : Prop := j.state = .opened ∨ j.state = .suspended
    (s.acts .cab = true →
      (number = 0#16 → exec open_ s = .next (s.replied open_ ⟨.badValue, [1#8]⟩)) ∧
      (number ≠ 0#16 → busy → exec open_ s = .next (s.replied open_ ⟨.badState, []⟩)) ∧
      (number ≠ 0#16 → j.state = .closed → j.summaryRead = false →
        exec open_ s = .next (s.replied open_ ⟨.summaryUnread, []⟩)) ∧
      (number ≠ 0#16 → j.state = .noJob ∨ (j.state = .closed ∧ j.summaryRead = true) →
        exec open_ s = .next ((job fresh).replied open_
          ⟨.ok, be 2 number.toNat ++ be 1 (fresh.baselines.toList.countP Option.isNone)⟩)) ∧
      (j.state = .opened →
        exec .suspendJob s = .next ((job { j with state := .suspended }).replied .suspendJob ⟨.ok, []⟩)) ∧
      (j.state ≠ .opened → exec .suspendJob s = .next (s.replied .suspendJob ⟨.badState, []⟩)) ∧
      (j.state = .suspended →
        exec .resumeJob s = .next ((job { j with state := .opened }).replied .resumeJob ⟨.ok, []⟩)) ∧
      (j.state ≠ .suspended → exec .resumeJob s = .next (s.replied .resumeJob ⟨.badState, []⟩)) ∧
      (busy → exec .closeJob s = .next ((job { j with state := .closed, closeTime := s.timeStamp }).replied
        .closeJob ⟨.ok, be 6 j.accumulators[17].mills⟩)) ∧
      (¬ busy → exec .closeJob s = .next (s.replied .closeJob ⟨.badState, []⟩))) ∧
    (s.active .cab = true →
      (j.state = .closed → exec .fetchSummary s = .next ((job { j with summaryRead := true }).replied
        .fetchSummary ⟨.ok, summaryBody j⟩)) ∧
      (j.state ≠ .closed → exec .fetchSummary s = .next (s.replied .fetchSummary ⟨.badState, []⟩))) ∧
    (∀ (h : HeadAnnounce) (b : Fin 4), heardContent s.headView = some h →
      s.freshBaselines[b.val]? = some (some h.footage[b].toNat)) ∧
    (∀ (m : MudAnnounce) (a : Fin 4), heardContent s.mudView = some m →
      s.freshBaselines[a.val + 4]? = some (some m.additives[a].toNat)) ∧
    (∀ h : HandlerAnnounce, heardContent s.handlerView = some h →
      s.freshBaselines[8]? = some (some h.makeups.toNat)) ∧
    (∀ b : Fin 4, heardContent s.headView = none → s.freshBaselines[b.val]? = some none) ∧
    (∀ a : Fin 4, heardContent s.mudView = none → s.freshBaselines[a.val + 4]? = some none) ∧
    (heardContent s.handlerView = none → s.freshBaselines[8]? = some none) ∧
    (s.owner .head = none → heardContent s.headView = none) ∧
    (s.owner .mud = none → heardContent s.mudView = none) ∧
    (s.owner .handler = none → heardContent s.handlerView = none) ∧
    (∀ st : Station,
      let e := s.peers[st]
      (s.owner .head = some st → heardContent s.headView =
        if e.head.freshness = .fresh ∨ e.head.freshness = .stale then e.head.content else none) ∧
      (s.owner .mud = some st → heardContent s.mudView =
        if e.mud.freshness = .fresh ∨ e.mud.freshness = .stale then e.mud.content else none) ∧
      (s.owner .handler = some st → heardContent s.handlerView =
        if e.handler.freshness = .fresh ∨ e.handler.freshness = .stale then e.handler.content else none))

/-- ADD_CHARGE and SECOND_STEP (R155, R159, R161); the activity class, by the first line of its table that holds
(R154); a charge of mills to an account, made with what goes with it, or refused with ACCUM_SATURATED and the
mark of each of its two accumulators that it would have taken past the limit (R160); the tariff window in
force, its number and multiplier (R153), taken at each second step (R163). A charge of 0 mills to a marked
accumulator is refused like any other (log 33); an activity or kind outside R170 is no listed one (log 25); a
block that acts without its group, which no run reaches, passes the step (log 32). -/
def Obligations.ChargesAreMade : Prop :=
  ∀ (amount : BitVec 32) (mills minute : Nat) (i : Account) (a : Activity) (c : CabConfig)
      (made : JobRecord → JobRecord) (s : State),
    let j := s.meter.job
    let add := Instr.addCharge amount
    let job (j' : JobRecord) (u : State) : State := { u with meter := { u.meter with job := j' } }
    let fits (i : Account) (mills : Nat) : Prop := j.accumulators[i.castSucc].saturated = false ∧
      j.accumulators[17].saturated = false ∧
      j.accumulators[i.castSucc].mills + mills ≤ 2 ^ 47 - 1 ∧
      j.accumulators[17].mills + mills ≤ 2 ^ 47 - 1
    let marked (x : Accumulator) : Accumulator :=
      { x with saturated := x.saturated || decide (2 ^ 47 - 1 < x.mills + mills) }
    let down : Prop := ∃ r : Role, r ≠ .cab ∧ (s.owner r = none ∨ ∃ st, s.owner r = some st ∧
      (s.peers[st].freshness (.announce r) = .unheard ∨ s.peers[st].freshness (.announce r) = .lost))
    let drilling : Prop := ∃ h, lastHeard s.headView = some h ∧ h.onBottom = true
    let tripping : Prop := ∃ h, lastHeard s.handlerView = some h ∧ h.remaining ≠ 0#8
    let connecting : Prop := ∃ h, lastHeard s.handlerView = some h ∧ h.kind ≠ CycleKind.bits .none
    let flowing : Prop := ∃ m, lastHeard s.mudView = some m ∧
      (m.circ = CircState.bits .priming ∨ m.circ = CircState.bits .circulating)
    let k := activityIndex a
    let n := c.timeRates[k] * 1000 * c.multiplierAt minute + j.timeResidues[k]
    (s.acts .cab = true →
      (amount = 0#32 ∨ 1000000 < amount.toNat →
        exec add s = .next (s.replied add ⟨.badValue, [1#8]⟩)) ∧
      (0 < amount.toNat → amount.toNat ≤ 1000000 → j.state ≠ .opened →
        exec add s = .next (s.replied add ⟨.badState, []⟩)) ∧
      (0 < amount.toNat → amount.toNat ≤ 1000000 → j.state = .opened →
        mills = amount.toNat * 1000 →
        (fits 16 mills → exec add s = .next ((s.charge 16 mills id).replied add
          ⟨.ok, be 6 (j.accumulators[16].mills + mills)⟩)) ∧
        (¬ fits 16 mills → exec add s = .next ((s.charge 16 mills id).replied add
          ⟨.accumSaturated, []⟩))) ∧
      (s.node.cab = some c →
        exec .secondStep s = .next { (State.elapsedSecond c
            { s with meter := { s.meter with
                activity := s.activityClass, window := s.stepMinute.map c.inForce } }) with
          timers := { s.timers with second := some (s.now + 125000) }
          clock := { s.clock with lastMinute := none } })) ∧
    (s.acts .cab = false ∨ s.node.cab = none → exec .secondStep s = .next s) ∧
    (fits i mills → s.charge i mills made = job (made { j with
      accumulators := put (put j.accumulators i.castSucc
        ⟨j.accumulators[i.castSucc].mills + mills, false⟩) 17
        ⟨j.accumulators[17].mills + mills, false⟩ }) s) ∧
    (¬ fits i mills → s.charge i mills made = { s with
      meter := { s.meter with job := { j with
        accumulators := put (put j.accumulators i.castSucc (marked j.accumulators[i.castSucc])) 17
          (marked j.accumulators[17]) } }
      causes := s.causes ||| causeBit .accumSaturated }) ∧
    (∀ x : Accumulator, x.refused mills = marked x) ∧
    (j.state ≠ .opened → s.elapsedSecond c = s) ∧
    (j.state = .opened → s.stepMinute = none → s.elapsedSecond c = job { j with
      flags := { j.flags with clockGap := true }
      quantities := put j.quantities 16 (min 4294967295 (j.quantities[16] + 1)) } s) ∧
    (j.state = .opened → s.stepMinute = some minute →
      s.elapsedSecond c = s.chargeSecond c s.meter.activity minute) ∧
    (s.clock.time = none → s.stepMinute = none) ∧
    (∀ t : ClockTime, s.clock.time = some t →
      (∀ before, s.clock.lastMinute = some (s.now, before) → s.stepMinute = some before) ∧
      ((∀ before, s.clock.lastMinute ≠ some (s.now, before)) → s.stepMinute = some t.minute)) ∧
    (s.chargeSecond c a minute = s.charge (classAccount a) (n / 921600) fun j => { j with
      timeResidues := put j.timeResidues k (n % 921600)
      quantities := put j.quantities (classAccount a)
        (min 4294967295 (j.quantities[classAccount a] + 1)) }) ∧
    (c.inForce minute = ((c.inForce minute).1, c.multiplierAt minute)) ∧
    (c.windows = [] → c.inForce minute = (0, 256)) ∧
    (∀ before w after, c.windows = before ++ w :: after →
      (w.start ≤ minute → (∀ x ∈ after, minute < x.start) →
        c.inForce minute = (before.length + 1, w.multiplier)) ∧
      (after = [] → (∀ x ∈ c.windows, minute < x.start) →
        c.inForce minute = (before.length + 1, w.multiplier))) ∧
    (s.held = true → s.activityClass = .held) ∧
    (s.held = false →
      (down → s.activityClass = .down) ∧
      (¬ down →
        (drilling → s.activityClass = .drilling) ∧
        (¬ drilling → tripping → s.activityClass = .tripping) ∧
        (¬ drilling → ¬ tripping → connecting → s.activityClass = .connecting) ∧
        (¬ drilling → ¬ tripping → ¬ connecting → flowing → s.activityClass = .circulating) ∧
        (¬ drilling → ¬ tripping → ¬ connecting → ¬ flowing → s.activityClass = .standby)))

/-- The counters of owner arrivals at the job meter (R156 to R158, R161): what an arrival does to a baseline, a gap
flag and, through a charge, to the bill. That the counters of one arrival are read in the order of R156's table
is the model's choice (log 39). -/
def Obligations.CountersAreRead : Prop :=
  ∀ (n : Fin 9) (value last growth minute : Nat) (b k : Fin 4) (c : CabConfig) (standing : Bool)
      (gap : JobFlags → JobFlags) (paid : Nat → State → State) (h : HeadAnnounce) (m : MudAnnounce)
      (a : HandlerAnnounce) (s : State),
    let j := s.meter.job
    let job (j' : JobRecord) : State := { s with meter := { s.meter with job := j' } }
    let read := s.readCounter n value standing gap paid
    let seen : JobRecord := { j with baselines := put j.baselines n (some value) }
    let feet := growth * c.bandRates[b] * c.multiplierAt minute + j.bandResidues[b]
    (s.acts .cab = false → s.readArrival (.head h) = s) ∧
    (s.acts .cab = true → s.node.cab = some c →
      s.readArrival (.head h) = ((((s.readFootage c 0 h.footage[0].toNat).readFootage c 1
        h.footage[1].toNat).readFootage c 2 h.footage[2].toNat).readFootage c 3 h.footage[3].toNat) ∧
      s.meterMud m = ((((s.readAdditive c 0 m.additives[0].toNat).readAdditive c 1
        m.additives[1].toNat).readAdditive c 2 m.additives[2].toNat).readAdditive c 3
        m.additives[3].toNat) ∧
      s.meterHandler a = s.readCounter 8 a.makeups.toNat false
        (fun f => { f with handlerGap := true }) (State.chargeWear c)) ∧
    (s.readAdditive c k value = s.readCounter ⟨k.val + 4, by omega⟩ value false
      (fun f => { f with mudGap := true }) (State.chargeAdditive c k)) ∧
    (s.readFootage c b value = s.readCounter (b.castLE (by decide)) value s.clock.time.isNone
      (fun f => { f with footageGap := true })
      (fun growth u => match u.clock.time with
        | some t => u.chargeFootage c b t.minute growth
        | none => u)) ∧
    (s.clock.time = none → j.state = .opened → j.baselines[b.val] = some last → last ≤ value →
      s.readFootage c b value = s) ∧
    (∀ t : ClockTime, s.clock.time = some t →
      j.state = .opened → j.baselines[b.val] = some last → last < value →
      s.readFootage c b value = (s.chargeFootage c b t.minute (value - last)).mapJob fun j' =>
        { j' with baselines := put j'.baselines (b.castLE (by decide)) (some value) }) ∧
    (s.chargeFootage c b minute growth = s.charge (bandAccount b) (feet / 256) fun j => { j with
      bandResidues := put j.bandResidues b (feet % 256)
      quantities := put j.quantities (bandAccount b)
        (min 4294967295 (j.quantities[bandAccount b] + growth)) }) ∧
    (s.chargeAdditive c k growth = s.charge (additiveAccount k) (growth * c.additivePrices[k] * 1000)
      fun j => { j with
        quantities := put j.quantities (additiveAccount k)
          (min 4294967295 (j.quantities[additiveAccount k] + growth)) }) ∧
    (s.chargeWear c growth = s.charge 15 (growth * c.wearPrice * 1000)
      fun j => { j with quantities := put j.quantities 15 (min 4294967295 (j.quantities[15] + growth)) }) ∧
    (j.state = .suspended → read = job seen) ∧
    (j.state = .noJob ∨ j.state = .closed → read = s) ∧
    (j.state = .opened → j.baselines[n] = none → read = job seen) ∧
    (j.state = .opened → j.baselines[n] = some last →
      (value < last → read = job { seen with flags := gap j.flags }) ∧
      (value = last → read = s) ∧
      (last < value → standing = true → read = s) ∧
      (last < value → standing = false → read = (paid (value - last) s).mapJob fun j' =>
        { j' with baselines := put j'.baselines n (some value) }))

/-! ### Invariants -/

/-- The invariants below hold at State.reset. -/
def Obligations.InvariantsHoldAtReset : Prop :=
  State.reset.bal.sumKept ∧ State.reset.bal.residuesKept ∧ State.reset.bal.inRange ∧
  State.reset.circ.lockSafe ∧ State.reset.meter.job.totalKept ∧ State.reset.meter.job.residuesKept ∧
  State.reset.log.contiguous ∧ State.reset.inventory.idsUnique ∧ State.reset.inventory.stringKept ∧
  State.reset.link.countsKept ∧ State.reset.link.owned ∧ State.reset.seq.stepKept ∧
  State.reset.markerKept ∧ State.reset.stepsTaken

/-- The balance unit after every step: B is the sum of the window's fifteen slots (R114), the residues stay below
100 in size (R112), imbalances and totals within their limits (R113, R117). -/
def Obligations.BalanceStaysConsistent : Prop :=
  ∀ s t : State, step s = .next t →
    (s.bal.sumKept → t.bal.sumKept) ∧ (s.bal.residuesKept → t.bal.residuesKept) ∧
    (s.bal.inRange → t.bal.inRange)

/-- With the lock standing, or with circulation stopped, no pump runs, whatever happens (R94). -/
def Obligations.LockedPumpsStayOff : Prop :=
  ∀ s t : State, s.circ.lockSafe → step s = .next t → t.circ.lockSafe

/-- The job record after every step: the job total is the sum of the other accumulators and none passes the limit
(R160), and the residues stay below a mill (R155, R157). -/
def Obligations.JobStaysConsistent : Prop :=
  ∀ s t : State, step s = .next t →
    (s.meter.job.totalKept → t.meter.job.totalKept) ∧
    (s.meter.job.residuesKept → t.meter.job.residuesKept)

/-- The numbers stored stay one contiguous run that ends just below the open interval's (R141). -/
def Obligations.StoreStaysContiguous : Prop :=
  ∀ s t : State, s.log.contiguous → step s = .next t → t.log.contiguous

/-- The inventory after every step: no rod ID is held twice (R57), an empty string has no tally correction, the
string has at most 160 entries and the correction at most 500 mm either way (R56, R65). -/
def Obligations.InventoryStaysConsistent : Prop :=
  ∀ s t : State, step s = .next t →
    (s.inventory.idsUnique → t.inventory.idsUnique) ∧ (s.inventory.stringKept → t.inventory.stringKept)

/-- The link controller after every step: its counts stay in their ranges (R25, R32, R38), and a frame is in
transmission exactly in line state OWNER (R23, R28). -/
def Obligations.LinkStaysConsistent : Prop :=
  ∀ s t : State, step s = .next t →
    (s.link.countsKept → t.link.countsKept) ∧ (s.link.owned → t.link.owned)

/-- The sequencer after every step: step, fixed slot, fault cause and kind go with its state (R69); while a cycle
is under way the marker stands as the cycle does (R86); and no current step's condition holds, since entry checks
and input changes end every step that can end (R70). Each needs those before it. -/
def Obligations.SequencerStaysConsistent : Prop :=
  ∀ s t : State, step s = .next t → s.seq.stepKept →
    t.seq.stepKept ∧ (s.markerKept → t.markerKept ∧ (s.stepsTaken → t.stepsTaken))

/-- A frame read back from the line is the frame that was sent (R19 to R22, R25, R171): stuffing, CRC, layouts
and codes lose nothing. Every frame a receiver finds valid is a command row, whatever codes it carries (R26).
And what the sender reads back decides how its transmission ends (R29 to R31): a frame read back as sent is
complete; of the first mismatch, a recessive arbitration bit read dominant is an arbitration loss, and any other
bit, an inserted one too, a bit fault. -/
def Obligations.FramesCrossTheLine : Prop :=
  (∀ (source : Station) (f : Frame),
    (∀ d, f = .directive d → d.arg.length ≤ 4) →
    received (lineBits source f) = some (frameRow source f) ∧ (lineBits source f).length ≤ 525) ∧
  (∀ (bits : List Level) (source : Station) (kind : Nat) (bytes : List Byte),
    receive bits = .valid source kind bytes →
    ∃ f, frameOf kind bytes = some f ∧ received bits = some (frameRow source f)) ∧
  ∀ (own : Station) (f : Frame) (more : List Level) (s : State),
    let bits := drivenBits own f
    let unstuffed := bits.filter (·.2 != .stuff)
    (bits.map (·.1) = lineBits own f) ∧
    (unstuffed.map (·.1) = frameBits own f ++ List.replicate 8 true) ∧
    (unstuffed.map (·.2) = .start :: List.replicate 7 .arbitration ++
      List.replicate ((frameBits own f).length - 8) .content ++ List.replicate 8 .delimiter) ∧
    (s.link.line ≠ .owner → s.sentRow more = none) ∧
    (s.link.line = .owner → s.link.sending = some f → s.station = some own →
      s.sentRow (lineBits own f ++ more) = some .frameComplete ∧
      ∀ before sent part after read, bits = before ++ (sent, part) :: after → read ≠ sent →
        s.sentRow (before.map (·.1) ++ read :: more) =
          some (if part = .arbitration ∧ sent = true then .arbitrationLoss else .bitFault))
end

