-- ==== Sys2Proof/Laws/State.lean ====
section
/-! SUPPORT. What each shared update of State leaves unchanged: single updates field by field, by rfl, and the
operations on attention causes and the hold set (R42 to R50) one lemma each. -/

namespace Sys2Proof.Machine

/-! ### One cause raised -/

@[simp] theorem State.raise_node (c : Cause) (s : State) : (State.raise c s).node = s.node := rfl
@[simp] theorem State.raise_clock (c : Cause) (s : State) : (State.raise c s).clock = s.clock := rfl
@[simp] theorem State.raise_time (c : Cause) (s : State) : (State.raise c s).time = s.time := rfl
@[simp] theorem State.raise_timers (c : Cause) (s : State) : (State.raise c s).timers = s.timers := rfl
@[simp] theorem State.raise_pins (c : Cause) (s : State) : (State.raise c s).pins = s.pins := rfl
@[simp] theorem State.raise_peers (c : Cause) (s : State) : (State.raise c s).peers = s.peers := rfl
@[simp] theorem State.raise_link (c : Cause) (s : State) : (State.raise c s).link = s.link := rfl
@[simp] theorem State.raise_directives (c : Cause) (s : State) : (State.raise c s).directives = s.directives := rfl
@[simp] theorem State.raise_holds (c : Cause) (s : State) : (State.raise c s).holds = s.holds := rfl
@[simp] theorem State.raise_inventory (c : Cause) (s : State) : (State.raise c s).inventory = s.inventory := rfl
@[simp] theorem State.raise_seq (c : Cause) (s : State) : (State.raise c s).seq = s.seq := rfl
@[simp] theorem State.raise_circ (c : Cause) (s : State) : (State.raise c s).circ = s.circ := rfl
@[simp] theorem State.raise_bal (c : Cause) (s : State) : (State.raise c s).bal = s.bal := rfl
@[simp] theorem State.raise_depth (c : Cause) (s : State) : (State.raise c s).depth = s.depth := rfl
@[simp] theorem State.raise_log (c : Cause) (s : State) : (State.raise c s).log = s.log := rfl
@[simp] theorem State.raise_meter (c : Cause) (s : State) : (State.raise c s).meter = s.meter := rfl
@[simp] theorem State.raise_port (c : Cause) (s : State) : (State.raise c s).port = s.port := rfl
@[simp] theorem State.raise_causes (c : Cause) (s : State) : (State.raise c s).causes = s.causes ||| causeBit c := rfl
@[simp] theorem State.raise_pending (c : Cause) (s : State) : (State.raise c s).pending = s.pending := rfl

/-! ### A hold frame placed -/

@[simp] theorem State.placeHoldFrame_node (f : HoldFrame) (s : State) : (State.placeHoldFrame f s).node = s.node := rfl
@[simp] theorem State.placeHoldFrame_clock (f : HoldFrame) (s : State) : (State.placeHoldFrame f s).clock = s.clock := rfl
@[simp] theorem State.placeHoldFrame_time (f : HoldFrame) (s : State) : (State.placeHoldFrame f s).time = s.time := rfl
@[simp] theorem State.placeHoldFrame_timers (f : HoldFrame) (s : State) : (State.placeHoldFrame f s).timers = s.timers := rfl
@[simp] theorem State.placeHoldFrame_pins (f : HoldFrame) (s : State) : (State.placeHoldFrame f s).pins = s.pins := rfl
@[simp] theorem State.placeHoldFrame_peers (f : HoldFrame) (s : State) : (State.placeHoldFrame f s).peers = s.peers := rfl
@[simp] theorem State.placeHoldFrame_link (f : HoldFrame) (s : State) : (State.placeHoldFrame f s).link = s.link.placeHold f := rfl
@[simp] theorem State.placeHoldFrame_directives (f : HoldFrame) (s : State) : (State.placeHoldFrame f s).directives = s.directives := rfl
@[simp] theorem State.placeHoldFrame_holds (f : HoldFrame) (s : State) : (State.placeHoldFrame f s).holds = s.holds := rfl
@[simp] theorem State.placeHoldFrame_inventory (f : HoldFrame) (s : State) : (State.placeHoldFrame f s).inventory = s.inventory := rfl
@[simp] theorem State.placeHoldFrame_seq (f : HoldFrame) (s : State) : (State.placeHoldFrame f s).seq = s.seq := rfl
@[simp] theorem State.placeHoldFrame_circ (f : HoldFrame) (s : State) : (State.placeHoldFrame f s).circ = s.circ := rfl
@[simp] theorem State.placeHoldFrame_bal (f : HoldFrame) (s : State) : (State.placeHoldFrame f s).bal = s.bal := rfl
@[simp] theorem State.placeHoldFrame_depth (f : HoldFrame) (s : State) : (State.placeHoldFrame f s).depth = s.depth := rfl
@[simp] theorem State.placeHoldFrame_log (f : HoldFrame) (s : State) : (State.placeHoldFrame f s).log = s.log := rfl
@[simp] theorem State.placeHoldFrame_meter (f : HoldFrame) (s : State) : (State.placeHoldFrame f s).meter = s.meter := rfl
@[simp] theorem State.placeHoldFrame_port (f : HoldFrame) (s : State) : (State.placeHoldFrame f s).port = s.port := rfl
@[simp] theorem State.placeHoldFrame_causes (f : HoldFrame) (s : State) : (State.placeHoldFrame f s).causes = s.causes := rfl
@[simp] theorem State.placeHoldFrame_pending (f : HoldFrame) (s : State) : (State.placeHoldFrame f s).pending = s.pending := rfl

/-! ### A request answered -/

@[simp] theorem State.answer_node (i : Instr) (r : Reply) (s : State) : (State.answer i (r, s)).node = s.node := rfl
@[simp] theorem State.answer_clock (i : Instr) (r : Reply) (s : State) : (State.answer i (r, s)).clock = s.clock := rfl
@[simp] theorem State.answer_time (i : Instr) (r : Reply) (s : State) : (State.answer i (r, s)).time = s.time := rfl
@[simp] theorem State.answer_timers (i : Instr) (r : Reply) (s : State) : (State.answer i (r, s)).timers = s.timers := rfl
@[simp] theorem State.answer_pins (i : Instr) (r : Reply) (s : State) : (State.answer i (r, s)).pins = s.pins := rfl
@[simp] theorem State.answer_peers (i : Instr) (r : Reply) (s : State) : (State.answer i (r, s)).peers = s.peers := rfl
@[simp] theorem State.answer_link (i : Instr) (r : Reply) (s : State) : (State.answer i (r, s)).link = s.link := rfl
@[simp] theorem State.answer_directives (i : Instr) (r : Reply) (s : State) : (State.answer i (r, s)).directives = s.directives := rfl
@[simp] theorem State.answer_holds (i : Instr) (r : Reply) (s : State) : (State.answer i (r, s)).holds = s.holds := rfl
@[simp] theorem State.answer_inventory (i : Instr) (r : Reply) (s : State) : (State.answer i (r, s)).inventory = s.inventory := rfl
@[simp] theorem State.answer_seq (i : Instr) (r : Reply) (s : State) : (State.answer i (r, s)).seq = s.seq := rfl
@[simp] theorem State.answer_circ (i : Instr) (r : Reply) (s : State) : (State.answer i (r, s)).circ = s.circ := rfl
@[simp] theorem State.answer_bal (i : Instr) (r : Reply) (s : State) : (State.answer i (r, s)).bal = s.bal := rfl
@[simp] theorem State.answer_depth (i : Instr) (r : Reply) (s : State) : (State.answer i (r, s)).depth = s.depth := rfl
@[simp] theorem State.answer_log (i : Instr) (r : Reply) (s : State) : (State.answer i (r, s)).log = s.log := rfl
@[simp] theorem State.answer_meter (i : Instr) (r : Reply) (s : State) : (State.answer i (r, s)).meter = s.meter := rfl
@[simp] theorem State.answer_port (i : Instr) (r : Reply) (s : State) : (State.answer i (r, s)).port = s.port.finish i r := rfl
@[simp] theorem State.answer_causes (i : Instr) (r : Reply) (s : State) : (State.answer i (r, s)).causes = s.causes := rfl
@[simp] theorem State.answer_pending (i : Instr) (r : Reply) (s : State) : (State.answer i (r, s)).pending = s.pending := rfl

@[simp] theorem State.replied_node (i : Instr) (r : Reply) (s : State) : (State.replied s i r).node = s.node := rfl
@[simp] theorem State.replied_clock (i : Instr) (r : Reply) (s : State) : (State.replied s i r).clock = s.clock := rfl
@[simp] theorem State.replied_time (i : Instr) (r : Reply) (s : State) : (State.replied s i r).time = s.time := rfl
@[simp] theorem State.replied_timers (i : Instr) (r : Reply) (s : State) : (State.replied s i r).timers = s.timers := rfl
@[simp] theorem State.replied_pins (i : Instr) (r : Reply) (s : State) : (State.replied s i r).pins = s.pins := rfl
@[simp] theorem State.replied_peers (i : Instr) (r : Reply) (s : State) : (State.replied s i r).peers = s.peers := rfl
@[simp] theorem State.replied_link (i : Instr) (r : Reply) (s : State) : (State.replied s i r).link = s.link := rfl
@[simp] theorem State.replied_directives (i : Instr) (r : Reply) (s : State) : (State.replied s i r).directives = s.directives := rfl
@[simp] theorem State.replied_holds (i : Instr) (r : Reply) (s : State) : (State.replied s i r).holds = s.holds := rfl
@[simp] theorem State.replied_inventory (i : Instr) (r : Reply) (s : State) : (State.replied s i r).inventory = s.inventory := rfl
@[simp] theorem State.replied_seq (i : Instr) (r : Reply) (s : State) : (State.replied s i r).seq = s.seq := rfl
@[simp] theorem State.replied_circ (i : Instr) (r : Reply) (s : State) : (State.replied s i r).circ = s.circ := rfl
@[simp] theorem State.replied_bal (i : Instr) (r : Reply) (s : State) : (State.replied s i r).bal = s.bal := rfl
@[simp] theorem State.replied_depth (i : Instr) (r : Reply) (s : State) : (State.replied s i r).depth = s.depth := rfl
@[simp] theorem State.replied_log (i : Instr) (r : Reply) (s : State) : (State.replied s i r).log = s.log := rfl
@[simp] theorem State.replied_meter (i : Instr) (r : Reply) (s : State) : (State.replied s i r).meter = s.meter := rfl
@[simp] theorem State.replied_port (i : Instr) (r : Reply) (s : State) : (State.replied s i r).port = s.port.finish i r := rfl
@[simp] theorem State.replied_causes (i : Instr) (r : Reply) (s : State) : (State.replied s i r).causes = s.causes := rfl
@[simp] theorem State.replied_pending (i : Instr) (r : Reply) (s : State) : (State.replied s i r).pending = s.pending := rfl

/-! ### The open interval and the job record changed -/

@[simp] theorem State.mapInterval_node (f : Interval → Interval) (s : State) : (State.mapInterval f s).node = s.node := rfl
@[simp] theorem State.mapInterval_clock (f : Interval → Interval) (s : State) : (State.mapInterval f s).clock = s.clock := rfl
@[simp] theorem State.mapInterval_time (f : Interval → Interval) (s : State) : (State.mapInterval f s).time = s.time := rfl
@[simp] theorem State.mapInterval_timers (f : Interval → Interval) (s : State) : (State.mapInterval f s).timers = s.timers := rfl
@[simp] theorem State.mapInterval_pins (f : Interval → Interval) (s : State) : (State.mapInterval f s).pins = s.pins := rfl
@[simp] theorem State.mapInterval_peers (f : Interval → Interval) (s : State) : (State.mapInterval f s).peers = s.peers := rfl
@[simp] theorem State.mapInterval_link (f : Interval → Interval) (s : State) : (State.mapInterval f s).link = s.link := rfl
@[simp] theorem State.mapInterval_directives (f : Interval → Interval) (s : State) : (State.mapInterval f s).directives = s.directives := rfl
@[simp] theorem State.mapInterval_holds (f : Interval → Interval) (s : State) : (State.mapInterval f s).holds = s.holds := rfl
@[simp] theorem State.mapInterval_inventory (f : Interval → Interval) (s : State) : (State.mapInterval f s).inventory = s.inventory := rfl
@[simp] theorem State.mapInterval_seq (f : Interval → Interval) (s : State) : (State.mapInterval f s).seq = s.seq := rfl
@[simp] theorem State.mapInterval_circ (f : Interval → Interval) (s : State) : (State.mapInterval f s).circ = s.circ := rfl
@[simp] theorem State.mapInterval_bal (f : Interval → Interval) (s : State) : (State.mapInterval f s).bal = s.bal := rfl
@[simp] theorem State.mapInterval_depth (f : Interval → Interval) (s : State) : (State.mapInterval f s).depth = s.depth := rfl
@[simp] theorem State.mapInterval_log (f : Interval → Interval) (s : State) : (State.mapInterval f s).log = { s.log with current := f s.log.current } := rfl
@[simp] theorem State.mapInterval_meter (f : Interval → Interval) (s : State) : (State.mapInterval f s).meter = s.meter := rfl
@[simp] theorem State.mapInterval_port (f : Interval → Interval) (s : State) : (State.mapInterval f s).port = s.port := rfl
@[simp] theorem State.mapInterval_causes (f : Interval → Interval) (s : State) : (State.mapInterval f s).causes = s.causes := rfl
@[simp] theorem State.mapInterval_pending (f : Interval → Interval) (s : State) : (State.mapInterval f s).pending = s.pending := rfl

@[simp] theorem State.mapJob_node (f : JobRecord → JobRecord) (s : State) : (State.mapJob f s).node = s.node := rfl
@[simp] theorem State.mapJob_clock (f : JobRecord → JobRecord) (s : State) : (State.mapJob f s).clock = s.clock := rfl
@[simp] theorem State.mapJob_time (f : JobRecord → JobRecord) (s : State) : (State.mapJob f s).time = s.time := rfl
@[simp] theorem State.mapJob_timers (f : JobRecord → JobRecord) (s : State) : (State.mapJob f s).timers = s.timers := rfl
@[simp] theorem State.mapJob_pins (f : JobRecord → JobRecord) (s : State) : (State.mapJob f s).pins = s.pins := rfl
@[simp] theorem State.mapJob_peers (f : JobRecord → JobRecord) (s : State) : (State.mapJob f s).peers = s.peers := rfl
@[simp] theorem State.mapJob_link (f : JobRecord → JobRecord) (s : State) : (State.mapJob f s).link = s.link := rfl
@[simp] theorem State.mapJob_directives (f : JobRecord → JobRecord) (s : State) : (State.mapJob f s).directives = s.directives := rfl
@[simp] theorem State.mapJob_holds (f : JobRecord → JobRecord) (s : State) : (State.mapJob f s).holds = s.holds := rfl
@[simp] theorem State.mapJob_inventory (f : JobRecord → JobRecord) (s : State) : (State.mapJob f s).inventory = s.inventory := rfl
@[simp] theorem State.mapJob_seq (f : JobRecord → JobRecord) (s : State) : (State.mapJob f s).seq = s.seq := rfl
@[simp] theorem State.mapJob_circ (f : JobRecord → JobRecord) (s : State) : (State.mapJob f s).circ = s.circ := rfl
@[simp] theorem State.mapJob_bal (f : JobRecord → JobRecord) (s : State) : (State.mapJob f s).bal = s.bal := rfl
@[simp] theorem State.mapJob_depth (f : JobRecord → JobRecord) (s : State) : (State.mapJob f s).depth = s.depth := rfl
@[simp] theorem State.mapJob_log (f : JobRecord → JobRecord) (s : State) : (State.mapJob f s).log = s.log := rfl
@[simp] theorem State.mapJob_meter (f : JobRecord → JobRecord) (s : State) : (State.mapJob f s).meter = { s.meter with job := f s.meter.job } := rfl
@[simp] theorem State.mapJob_port (f : JobRecord → JobRecord) (s : State) : (State.mapJob f s).port = s.port := rfl
@[simp] theorem State.mapJob_causes (f : JobRecord → JobRecord) (s : State) : (State.mapJob f s).causes = s.causes := rfl
@[simp] theorem State.mapJob_pending (f : JobRecord → JobRecord) (s : State) : (State.mapJob f s).pending = s.pending := rfl

/-! ### Raising on a condition -/

@[simp] theorem State.raiseIf_true (c : Cause) (s : State) : State.raiseIf true c s = s.raise c := rfl
@[simp] theorem State.raiseIf_false (c : Cause) (s : State) : State.raiseIf false c s = s := rfl

/-- What raising on a condition does to the cause set. -/
theorem State.raiseIf_causes (b : Bool) (c : Cause) (s : State) :
    (State.raiseIf b c s).causes = if b then s.causes ||| causeBit c else s.causes := by
  cases b <;> rfl

/-- An answered request has a next state. -/
theorem answered_eq (i : Instr) (a : Answered) :
    answered i a = .next { a.2 with port := a.2.port.finish i a.1 } := rfl

/-- Raising on a condition touches the cause set alone. -/
@[simp] theorem State.raiseIf_frame (b : Bool) (c : Cause) (s : State) :
    (State.raiseIf b c s).node = s.node ∧ (State.raiseIf b c s).clock = s.clock ∧
    (State.raiseIf b c s).time = s.time ∧ (State.raiseIf b c s).timers = s.timers ∧
    (State.raiseIf b c s).pins = s.pins ∧ (State.raiseIf b c s).peers = s.peers ∧
    (State.raiseIf b c s).link = s.link ∧ (State.raiseIf b c s).directives = s.directives ∧
    (State.raiseIf b c s).holds = s.holds ∧ (State.raiseIf b c s).inventory = s.inventory ∧
    (State.raiseIf b c s).seq = s.seq ∧ (State.raiseIf b c s).circ = s.circ ∧
    (State.raiseIf b c s).bal = s.bal ∧ (State.raiseIf b c s).depth = s.depth ∧
    (State.raiseIf b c s).log = s.log ∧ (State.raiseIf b c s).meter = s.meter ∧
    (State.raiseIf b c s).port = s.port ∧ (State.raiseIf b c s).pending = s.pending := by
  and_intros <;> (unfold State.raiseIf; (repeat' split) <;> simp)

/-- The held edge touches the sequencer alone. -/
@[simp] theorem State.heldEdge_frame (s : State) :
    (State.heldEdge s).node = s.node ∧ (State.heldEdge s).clock = s.clock ∧
    (State.heldEdge s).time = s.time ∧ (State.heldEdge s).timers = s.timers ∧
    (State.heldEdge s).pins = s.pins ∧ (State.heldEdge s).peers = s.peers ∧
    (State.heldEdge s).link = s.link ∧ (State.heldEdge s).directives = s.directives ∧
    (State.heldEdge s).holds = s.holds ∧ (State.heldEdge s).inventory = s.inventory ∧
    (State.heldEdge s).circ = s.circ ∧ (State.heldEdge s).bal = s.bal ∧
    (State.heldEdge s).depth = s.depth ∧ (State.heldEdge s).log = s.log ∧
    (State.heldEdge s).meter = s.meter ∧ (State.heldEdge s).port = s.port ∧
    (State.heldEdge s).causes = s.causes ∧ (State.heldEdge s).pending = s.pending := by
  and_intros <;> (unfold State.heldEdge; (repeat' split) <;> simp)

/-- Replacing the hold set touches the set, the causes and, by the held edge, the sequencer. -/
@[simp] theorem State.withHolds_frame (h : Holds) (b : Bool) (s : State) :
    (State.withHolds h b s).node = s.node ∧ (State.withHolds h b s).clock = s.clock ∧
    (State.withHolds h b s).time = s.time ∧ (State.withHolds h b s).timers = s.timers ∧
    (State.withHolds h b s).pins = s.pins ∧ (State.withHolds h b s).peers = s.peers ∧
    (State.withHolds h b s).link = s.link ∧ (State.withHolds h b s).directives = s.directives ∧
    (State.withHolds h b s).inventory = s.inventory ∧ (State.withHolds h b s).circ = s.circ ∧
    (State.withHolds h b s).bal = s.bal ∧ (State.withHolds h b s).depth = s.depth ∧
    (State.withHolds h b s).log = s.log ∧ (State.withHolds h b s).meter = s.meter ∧
    (State.withHolds h b s).port = s.port ∧ (State.withHolds h b s).pending = s.pending := by
  and_intros <;> (unfold State.withHolds; dsimp only; split <;> simp)

/-- Replacing the local reasons touches hold frame slot, hold set, causes and sequencer. -/
@[simp] theorem State.setReasons_frame (r : ReasonSet) (s : State) :
    (State.setReasons r s).node = s.node ∧ (State.setReasons r s).clock = s.clock ∧
    (State.setReasons r s).time = s.time ∧ (State.setReasons r s).timers = s.timers ∧
    (State.setReasons r s).pins = s.pins ∧ (State.setReasons r s).peers = s.peers ∧
    (State.setReasons r s).directives = s.directives ∧
    (State.setReasons r s).inventory = s.inventory ∧ (State.setReasons r s).circ = s.circ ∧
    (State.setReasons r s).bal = s.bal ∧ (State.setReasons r s).depth = s.depth ∧
    (State.setReasons r s).log = s.log ∧ (State.setReasons r s).meter = s.meter ∧
    (State.setReasons r s).port = s.port ∧ (State.setReasons r s).pending = s.pending := by
  and_intros <;> (unfold State.setReasons; dsimp only; (repeat' split) <;> simp)

/-- Placing a local reason touches no more. -/
@[simp] theorem State.placeReason_frame (r : HoldReason) (s : State) :
    (State.placeReason r s).node = s.node ∧ (State.placeReason r s).clock = s.clock ∧
    (State.placeReason r s).time = s.time ∧ (State.placeReason r s).timers = s.timers ∧
    (State.placeReason r s).pins = s.pins ∧ (State.placeReason r s).peers = s.peers ∧
    (State.placeReason r s).directives = s.directives ∧
    (State.placeReason r s).inventory = s.inventory ∧ (State.placeReason r s).circ = s.circ ∧
    (State.placeReason r s).bal = s.bal ∧ (State.placeReason r s).depth = s.depth ∧
    (State.placeReason r s).log = s.log ∧ (State.placeReason r s).meter = s.meter ∧
    (State.placeReason r s).port = s.port ∧ (State.placeReason r s).pending = s.pending := by
  and_intros <;> (unfold State.placeReason; (repeat' split) <;> simp)

/-- Removing a local reason touches no more. -/
@[simp] theorem State.removeReason_frame (r : HoldReason) (s : State) :
    (State.removeReason r s).node = s.node ∧ (State.removeReason r s).clock = s.clock ∧
    (State.removeReason r s).time = s.time ∧ (State.removeReason r s).timers = s.timers ∧
    (State.removeReason r s).pins = s.pins ∧ (State.removeReason r s).peers = s.peers ∧
    (State.removeReason r s).directives = s.directives ∧
    (State.removeReason r s).inventory = s.inventory ∧ (State.removeReason r s).circ = s.circ ∧
    (State.removeReason r s).bal = s.bal ∧ (State.removeReason r s).depth = s.depth ∧
    (State.removeReason r s).log = s.log ∧ (State.removeReason r s).meter = s.meter ∧
    (State.removeReason r s).port = s.port ∧ (State.removeReason r s).pending = s.pending := by
  and_intros <;> (unfold State.removeReason; (repeat' split) <;> simp)

/-- Replacing another station's entry places no frame. -/
@[simp] theorem State.setEntry_frame (st : Station) (e : Option HoldEntry) (s : State) :
    (State.setEntry st e s).node = s.node ∧ (State.setEntry st e s).clock = s.clock ∧
    (State.setEntry st e s).time = s.time ∧ (State.setEntry st e s).timers = s.timers ∧
    (State.setEntry st e s).pins = s.pins ∧ (State.setEntry st e s).peers = s.peers ∧
    (State.setEntry st e s).link = s.link ∧ (State.setEntry st e s).directives = s.directives ∧
    (State.setEntry st e s).inventory = s.inventory ∧ (State.setEntry st e s).circ = s.circ ∧
    (State.setEntry st e s).bal = s.bal ∧ (State.setEntry st e s).depth = s.depth ∧
    (State.setEntry st e s).log = s.log ∧ (State.setEntry st e s).meter = s.meter ∧
    (State.setEntry st e s).port = s.port ∧ (State.setEntry st e s).pending = s.pending := by
  and_intros <;> (unfold State.setEntry; (repeat' split) <;> simp)

/-- A report of a station touches no more. -/
@[simp] theorem State.holdReport_frame (st : Station) (r : Option Byte) (s : State) :
    (State.holdReport st r s).node = s.node ∧ (State.holdReport st r s).clock = s.clock ∧
    (State.holdReport st r s).time = s.time ∧ (State.holdReport st r s).timers = s.timers ∧
    (State.holdReport st r s).pins = s.pins ∧ (State.holdReport st r s).peers = s.peers ∧
    (State.holdReport st r s).link = s.link ∧ (State.holdReport st r s).directives = s.directives ∧
    (State.holdReport st r s).inventory = s.inventory ∧ (State.holdReport st r s).circ = s.circ ∧
    (State.holdReport st r s).bal = s.bal ∧ (State.holdReport st r s).depth = s.depth ∧
    (State.holdReport st r s).log = s.log ∧ (State.holdReport st r s).meter = s.meter ∧
    (State.holdReport st r s).port = s.port ∧ (State.holdReport st r s).pending = s.pending := by
  and_intros <;> (unfold State.holdReport; (repeat' split) <;> simp)

/-- Orphaning touches no more. -/
@[simp] theorem State.orphan_frame (st : Station) (s : State) :
    (State.orphan st s).node = s.node ∧ (State.orphan st s).clock = s.clock ∧
    (State.orphan st s).time = s.time ∧ (State.orphan st s).timers = s.timers ∧
    (State.orphan st s).pins = s.pins ∧ (State.orphan st s).peers = s.peers ∧
    (State.orphan st s).link = s.link ∧ (State.orphan st s).directives = s.directives ∧
    (State.orphan st s).inventory = s.inventory ∧ (State.orphan st s).circ = s.circ ∧
    (State.orphan st s).bal = s.bal ∧ (State.orphan st s).depth = s.depth ∧
    (State.orphan st s).log = s.log ∧ (State.orphan st s).meter = s.meter ∧
    (State.orphan st s).port = s.port ∧ (State.orphan st s).pending = s.pending := by
  and_intros <;> (unfold State.orphan; (repeat' split) <;> simp)

end Sys2Proof.Machine
end

