-- ==== Sys2Proof/Laws/Circulation.lean ====
section
/-! SUPPORT. What the operations of circulation control and the balance unit leave unchanged (chapters 6 and 7). -/

namespace Sys2Proof.Machine

/-- A pump change touches the circulation controller and the causes. -/
@[simp] theorem State.pumpTo_frame (p : Pump) (n : PumpState) (s : State) :
    (State.pumpTo p n s).node = s.node ∧ (State.pumpTo p n s).clock = s.clock ∧
    (State.pumpTo p n s).time = s.time ∧ (State.pumpTo p n s).timers = s.timers ∧
    (State.pumpTo p n s).pins = s.pins ∧ (State.pumpTo p n s).peers = s.peers ∧
    (State.pumpTo p n s).link = s.link ∧ (State.pumpTo p n s).directives = s.directives ∧
    (State.pumpTo p n s).holds = s.holds ∧ (State.pumpTo p n s).inventory = s.inventory ∧
    (State.pumpTo p n s).seq = s.seq ∧ (State.pumpTo p n s).bal = s.bal ∧
    (State.pumpTo p n s).depth = s.depth ∧ (State.pumpTo p n s).log = s.log ∧
    (State.pumpTo p n s).meter = s.meter ∧ (State.pumpTo p n s).port = s.port ∧
    (State.pumpTo p n s).pending = s.pending := by
  and_intros <;> (unfold State.pumpTo; (repeat' split) <;> simp)

/-- Starting a pump touches no more. -/
@[simp] theorem State.pumpStarting_frame (p : Pump) (s : State) :
    (State.pumpStarting p s).node = s.node ∧ (State.pumpStarting p s).clock = s.clock ∧
    (State.pumpStarting p s).time = s.time ∧ (State.pumpStarting p s).timers = s.timers ∧
    (State.pumpStarting p s).pins = s.pins ∧ (State.pumpStarting p s).peers = s.peers ∧
    (State.pumpStarting p s).link = s.link ∧ (State.pumpStarting p s).directives = s.directives ∧
    (State.pumpStarting p s).holds = s.holds ∧ (State.pumpStarting p s).inventory = s.inventory ∧
    (State.pumpStarting p s).seq = s.seq ∧ (State.pumpStarting p s).bal = s.bal ∧
    (State.pumpStarting p s).depth = s.depth ∧ (State.pumpStarting p s).log = s.log ∧
    (State.pumpStarting p s).meter = s.meter ∧ (State.pumpStarting p s).port = s.port ∧
    (State.pumpStarting p s).pending = s.pending := by
  and_intros <;> (unfold State.pumpStarting; dsimp only; split <;> simp)

/-- What it means that a rise waits: it stands in the queue with no row ahead of it that moves the time base. -/
theorem State.riseWaits_iff (s : State) (p : Pump) :
    s.riseWaits p = true ↔ ∃ ahead behind,
      s.pending = ahead ++ .pumpRunningChange p true :: behind ∧ .timeBaseStep ∉ ahead := by
  unfold State.riseWaits
  rw [List.contains_iff_mem]
  induction s.pending with
  | nil => simp
  | cons c rest ih =>
    by_cases h : c = .timeBaseStep
    · simp only [h, bne_self_eq_false, List.takeWhile_cons, Bool.false_eq_true, if_false, List.not_mem_nil,
        false_iff]
      rintro ⟨_ | ⟨a, ahead⟩, behind, split, clear⟩ <;> simp_all
    · rw [List.takeWhile_cons, if_pos (by simpa using h), List.mem_cons, ih]
      constructor
      · rintro (rfl | ⟨ahead, behind, split, clear⟩)
        · exact ⟨[], rest, rfl, by simp⟩
        · exact ⟨c :: ahead, behind, by simp [split], by simp [clear, Ne.symm h]⟩
      · rintro ⟨_ | ⟨a, ahead⟩, behind, split, clear⟩
        · exact .inl (by simp_all)
        · exact .inr ⟨ahead, behind, by simp_all, by simp_all⟩

/-- Stopping a pump ends in STOPPING or, on a line that is low and does not rise now, in OFF. -/
theorem State.pumpStopping_cases (p : Pump) (s : State) :
    s.pumpStopping p = s.pumpTo p .stopping ∨
    s.pins.pumpRun p = false ∧ s.riseWaits p = false ∧
      s.pumpStopping p = (s.pumpTo p .stopping).pumpTo p .off := by
  unfold State.pumpStopping
  cases hr : s.pins.pumpRun p <;> cases hw : s.riseWaits p <;> simp

/-- Stopping a pump touches no more. -/
@[simp] theorem State.pumpStopping_frame (p : Pump) (s : State) :
    (State.pumpStopping p s).node = s.node ∧ (State.pumpStopping p s).clock = s.clock ∧
    (State.pumpStopping p s).time = s.time ∧ (State.pumpStopping p s).timers = s.timers ∧
    (State.pumpStopping p s).pins = s.pins ∧ (State.pumpStopping p s).peers = s.peers ∧
    (State.pumpStopping p s).link = s.link ∧ (State.pumpStopping p s).directives = s.directives ∧
    (State.pumpStopping p s).holds = s.holds ∧ (State.pumpStopping p s).inventory = s.inventory ∧
    (State.pumpStopping p s).seq = s.seq ∧ (State.pumpStopping p s).bal = s.bal ∧
    (State.pumpStopping p s).depth = s.depth ∧ (State.pumpStopping p s).log = s.log ∧
    (State.pumpStopping p s).meter = s.meter ∧ (State.pumpStopping p s).port = s.port ∧
    (State.pumpStopping p s).pending = s.pending := by
  and_intros <;> (unfold State.pumpStopping; dsimp only; split <;> simp)

/-- Stopping a pump that has its permit touches no more. -/
@[simp] theorem State.pumpStopIfPermitted_frame (p : Pump) (s : State) :
    (State.pumpStopIfPermitted p s).node = s.node ∧
    (State.pumpStopIfPermitted p s).clock = s.clock ∧
    (State.pumpStopIfPermitted p s).time = s.time ∧
    (State.pumpStopIfPermitted p s).timers = s.timers ∧
    (State.pumpStopIfPermitted p s).pins = s.pins ∧
    (State.pumpStopIfPermitted p s).peers = s.peers ∧
    (State.pumpStopIfPermitted p s).link = s.link ∧
    (State.pumpStopIfPermitted p s).directives = s.directives ∧
    (State.pumpStopIfPermitted p s).holds = s.holds ∧
    (State.pumpStopIfPermitted p s).inventory = s.inventory ∧
    (State.pumpStopIfPermitted p s).seq = s.seq ∧ (State.pumpStopIfPermitted p s).bal = s.bal ∧
    (State.pumpStopIfPermitted p s).depth = s.depth ∧ (State.pumpStopIfPermitted p s).log = s.log ∧
    (State.pumpStopIfPermitted p s).meter = s.meter ∧
    (State.pumpStopIfPermitted p s).port = s.port ∧
    (State.pumpStopIfPermitted p s).pending = s.pending := by
  and_intros <;> (unfold State.pumpStopIfPermitted; (repeat' split) <;> simp)

/-- Low suction touches no more. -/
@[simp] theorem State.lowSuction_frame (s : State) :
    (State.lowSuction s).node = s.node ∧ (State.lowSuction s).clock = s.clock ∧
    (State.lowSuction s).time = s.time ∧ (State.lowSuction s).timers = s.timers ∧
    (State.lowSuction s).pins = s.pins ∧ (State.lowSuction s).peers = s.peers ∧
    (State.lowSuction s).link = s.link ∧ (State.lowSuction s).directives = s.directives ∧
    (State.lowSuction s).holds = s.holds ∧ (State.lowSuction s).inventory = s.inventory ∧
    (State.lowSuction s).seq = s.seq ∧ (State.lowSuction s).bal = s.bal ∧
    (State.lowSuction s).depth = s.depth ∧ (State.lowSuction s).log = s.log ∧
    (State.lowSuction s).meter = s.meter ∧ (State.lowSuction s).port = s.port ∧
    (State.lowSuction s).pending = s.pending := by
  and_intros <;> (unfold State.lowSuction; (repeat' split) <;> simp)

/-- The pumps at RUNNING entry touch no more. -/
@[simp] theorem State.pumpsAtEntry_frame (s : State) :
    (State.pumpsAtEntry s).node = s.node ∧ (State.pumpsAtEntry s).clock = s.clock ∧
    (State.pumpsAtEntry s).time = s.time ∧ (State.pumpsAtEntry s).timers = s.timers ∧
    (State.pumpsAtEntry s).pins = s.pins ∧ (State.pumpsAtEntry s).peers = s.peers ∧
    (State.pumpsAtEntry s).link = s.link ∧ (State.pumpsAtEntry s).directives = s.directives ∧
    (State.pumpsAtEntry s).holds = s.holds ∧ (State.pumpsAtEntry s).inventory = s.inventory ∧
    (State.pumpsAtEntry s).seq = s.seq ∧ (State.pumpsAtEntry s).bal = s.bal ∧
    (State.pumpsAtEntry s).depth = s.depth ∧ (State.pumpsAtEntry s).log = s.log ∧
    (State.pumpsAtEntry s).meter = s.meter ∧ (State.pumpsAtEntry s).port = s.port ∧
    (State.pumpsAtEntry s).pending = s.pending := by
  and_intros <;> (unfold State.pumpsAtEntry; dsimp only; (repeat' split) <;> simp)

/-- The period of circulation control touches no more. -/
@[simp] theorem State.circulationPeriod_frame (c : MudConfig) (s : State) :
    (State.circulationPeriod c s).node = s.node ∧ (State.circulationPeriod c s).clock = s.clock ∧
    (State.circulationPeriod c s).time = s.time ∧ (State.circulationPeriod c s).timers = s.timers ∧
    (State.circulationPeriod c s).pins = s.pins ∧ (State.circulationPeriod c s).peers = s.peers ∧
    (State.circulationPeriod c s).link = s.link ∧
    (State.circulationPeriod c s).directives = s.directives ∧
    (State.circulationPeriod c s).holds = s.holds ∧
    (State.circulationPeriod c s).inventory = s.inventory ∧
    (State.circulationPeriod c s).seq = s.seq ∧ (State.circulationPeriod c s).bal = s.bal ∧
    (State.circulationPeriod c s).depth = s.depth ∧ (State.circulationPeriod c s).log = s.log ∧
    (State.circulationPeriod c s).meter = s.meter ∧ (State.circulationPeriod c s).port = s.port ∧
    (State.circulationPeriod c s).pending = s.pending := by
  and_intros <;> (unfold State.circulationPeriod; simp)

/-- The balance period touches the balance unit, and by FLOW_GAIN the hold set and what follows it. -/
@[simp] theorem State.balancePeriod_frame (c : MudConfig) (s : State) :
    (State.balancePeriod c s).node = s.node ∧ (State.balancePeriod c s).clock = s.clock ∧
    (State.balancePeriod c s).time = s.time ∧ (State.balancePeriod c s).timers = s.timers ∧
    (State.balancePeriod c s).pins = s.pins ∧ (State.balancePeriod c s).peers = s.peers ∧
    (State.balancePeriod c s).directives = s.directives ∧
    (State.balancePeriod c s).inventory = s.inventory ∧ (State.balancePeriod c s).circ = s.circ ∧
    (State.balancePeriod c s).depth = s.depth ∧ (State.balancePeriod c s).log = s.log ∧
    (State.balancePeriod c s).meter = s.meter ∧ (State.balancePeriod c s).port = s.port ∧
    (State.balancePeriod c s).pending = s.pending := by
  and_intros <;> (unfold State.balancePeriod; dsimp only; split <;> simp)

end Sys2Proof.Machine
end

