-- ==== Sys2Proof/Laws/Meter.lean ====
section
/-! SUPPORT. What the operations of the job meter leave unchanged (chapter 10). -/

namespace Sys2Proof.Machine

/-- A charge touches the meter and the causes. -/
@[simp] theorem State.charge_frame (i : Account) (m : Nat) (f : JobRecord → JobRecord) (s : State) :
    (State.charge i m f s).node = s.node ∧ (State.charge i m f s).clock = s.clock ∧
    (State.charge i m f s).time = s.time ∧ (State.charge i m f s).timers = s.timers ∧
    (State.charge i m f s).pins = s.pins ∧ (State.charge i m f s).peers = s.peers ∧
    (State.charge i m f s).link = s.link ∧ (State.charge i m f s).directives = s.directives ∧
    (State.charge i m f s).holds = s.holds ∧ (State.charge i m f s).inventory = s.inventory ∧
    (State.charge i m f s).seq = s.seq ∧ (State.charge i m f s).circ = s.circ ∧
    (State.charge i m f s).bal = s.bal ∧ (State.charge i m f s).depth = s.depth ∧
    (State.charge i m f s).log = s.log ∧ (State.charge i m f s).port = s.port ∧
    (State.charge i m f s).pending = s.pending := by
  and_intros <;> (unfold State.charge; (repeat' split) <;> simp)

/-- Taking class and window touches the meter alone. -/
@[simp] theorem State.takeClass_frame (c : CabConfig) (m : Option Nat) (s : State) :
    (State.takeClass c m s).node = s.node ∧ (State.takeClass c m s).clock = s.clock ∧
    (State.takeClass c m s).time = s.time ∧ (State.takeClass c m s).timers = s.timers ∧
    (State.takeClass c m s).pins = s.pins ∧ (State.takeClass c m s).peers = s.peers ∧
    (State.takeClass c m s).link = s.link ∧ (State.takeClass c m s).directives = s.directives ∧
    (State.takeClass c m s).holds = s.holds ∧ (State.takeClass c m s).inventory = s.inventory ∧
    (State.takeClass c m s).seq = s.seq ∧ (State.takeClass c m s).circ = s.circ ∧
    (State.takeClass c m s).bal = s.bal ∧ (State.takeClass c m s).depth = s.depth ∧
    (State.takeClass c m s).log = s.log ∧ (State.takeClass c m s).port = s.port ∧
    (State.takeClass c m s).causes = s.causes ∧ (State.takeClass c m s).pending = s.pending := by
  and_intros <;> (unfold State.takeClass; (repeat' split) <;> simp)

/-- Taking class and window leaves the job as it is. -/
@[simp] theorem State.takeClass_meter (c : CabConfig) (m : Option Nat) (s : State) :
    (State.takeClass c m s).meter = { s.meter with activity := s.activityClass, window := m.map c.inForce } :=
  rfl

/-- Charging a second touches the meter and the causes. -/
@[simp] theorem State.chargeSecond_frame (c : CabConfig) (a : Activity) (m : Nat) (s : State) :
    (State.chargeSecond c a m s).node = s.node ∧ (State.chargeSecond c a m s).clock = s.clock ∧
    (State.chargeSecond c a m s).time = s.time ∧ (State.chargeSecond c a m s).timers = s.timers ∧
    (State.chargeSecond c a m s).pins = s.pins ∧ (State.chargeSecond c a m s).peers = s.peers ∧
    (State.chargeSecond c a m s).link = s.link ∧
    (State.chargeSecond c a m s).directives = s.directives ∧
    (State.chargeSecond c a m s).holds = s.holds ∧
    (State.chargeSecond c a m s).inventory = s.inventory ∧
    (State.chargeSecond c a m s).seq = s.seq ∧ (State.chargeSecond c a m s).circ = s.circ ∧
    (State.chargeSecond c a m s).bal = s.bal ∧ (State.chargeSecond c a m s).depth = s.depth ∧
    (State.chargeSecond c a m s).log = s.log ∧ (State.chargeSecond c a m s).port = s.port ∧
    (State.chargeSecond c a m s).pending = s.pending := by
  and_intros <;> (unfold State.chargeSecond; simp)

/-- An elapsed second touches no more. -/
@[simp] theorem State.elapsedSecond_frame (c : CabConfig) (s : State) :
    (State.elapsedSecond c s).node = s.node ∧ (State.elapsedSecond c s).clock = s.clock ∧
    (State.elapsedSecond c s).time = s.time ∧ (State.elapsedSecond c s).timers = s.timers ∧
    (State.elapsedSecond c s).pins = s.pins ∧ (State.elapsedSecond c s).peers = s.peers ∧
    (State.elapsedSecond c s).link = s.link ∧ (State.elapsedSecond c s).directives = s.directives ∧
    (State.elapsedSecond c s).holds = s.holds ∧ (State.elapsedSecond c s).inventory = s.inventory ∧
    (State.elapsedSecond c s).seq = s.seq ∧ (State.elapsedSecond c s).circ = s.circ ∧
    (State.elapsedSecond c s).bal = s.bal ∧ (State.elapsedSecond c s).depth = s.depth ∧
    (State.elapsedSecond c s).log = s.log ∧ (State.elapsedSecond c s).port = s.port ∧
    (State.elapsedSecond c s).pending = s.pending := by
  and_intros <;> (unfold State.elapsedSecond; (repeat' split) <;> simp)

/-- Charging footage touches no more. -/
@[simp] theorem State.chargeFootage_frame (c : CabConfig) (b : Fin 4) (m g : Nat) (s : State) :
    (State.chargeFootage c b m g s).node = s.node ∧
    (State.chargeFootage c b m g s).clock = s.clock ∧
    (State.chargeFootage c b m g s).time = s.time ∧
    (State.chargeFootage c b m g s).timers = s.timers ∧
    (State.chargeFootage c b m g s).pins = s.pins ∧
    (State.chargeFootage c b m g s).peers = s.peers ∧
    (State.chargeFootage c b m g s).link = s.link ∧
    (State.chargeFootage c b m g s).directives = s.directives ∧
    (State.chargeFootage c b m g s).holds = s.holds ∧
    (State.chargeFootage c b m g s).inventory = s.inventory ∧
    (State.chargeFootage c b m g s).seq = s.seq ∧ (State.chargeFootage c b m g s).circ = s.circ ∧
    (State.chargeFootage c b m g s).bal = s.bal ∧ (State.chargeFootage c b m g s).depth = s.depth ∧
    (State.chargeFootage c b m g s).log = s.log ∧ (State.chargeFootage c b m g s).port = s.port ∧
    (State.chargeFootage c b m g s).pending = s.pending := by
  and_intros <;> (unfold State.chargeFootage; simp)

/-- Charging additives touches no more. -/
@[simp] theorem State.chargeAdditive_frame (c : CabConfig) (k : Fin 4) (g : Nat) (s : State) :
    (State.chargeAdditive c k g s).node = s.node ∧ (State.chargeAdditive c k g s).clock = s.clock ∧
    (State.chargeAdditive c k g s).time = s.time ∧
    (State.chargeAdditive c k g s).timers = s.timers ∧
    (State.chargeAdditive c k g s).pins = s.pins ∧ (State.chargeAdditive c k g s).peers = s.peers ∧
    (State.chargeAdditive c k g s).link = s.link ∧
    (State.chargeAdditive c k g s).directives = s.directives ∧
    (State.chargeAdditive c k g s).holds = s.holds ∧
    (State.chargeAdditive c k g s).inventory = s.inventory ∧
    (State.chargeAdditive c k g s).seq = s.seq ∧ (State.chargeAdditive c k g s).circ = s.circ ∧
    (State.chargeAdditive c k g s).bal = s.bal ∧ (State.chargeAdditive c k g s).depth = s.depth ∧
    (State.chargeAdditive c k g s).log = s.log ∧ (State.chargeAdditive c k g s).port = s.port ∧
    (State.chargeAdditive c k g s).pending = s.pending := by
  and_intros <;> (unfold State.chargeAdditive; (repeat' split) <;> simp)

/-- Charging wear touches no more. -/
@[simp] theorem State.chargeWear_frame (c : CabConfig) (g : Nat) (s : State) :
    (State.chargeWear c g s).node = s.node ∧ (State.chargeWear c g s).clock = s.clock ∧
    (State.chargeWear c g s).time = s.time ∧ (State.chargeWear c g s).timers = s.timers ∧
    (State.chargeWear c g s).pins = s.pins ∧ (State.chargeWear c g s).peers = s.peers ∧
    (State.chargeWear c g s).link = s.link ∧ (State.chargeWear c g s).directives = s.directives ∧
    (State.chargeWear c g s).holds = s.holds ∧ (State.chargeWear c g s).inventory = s.inventory ∧
    (State.chargeWear c g s).seq = s.seq ∧ (State.chargeWear c g s).circ = s.circ ∧
    (State.chargeWear c g s).bal = s.bal ∧ (State.chargeWear c g s).depth = s.depth ∧
    (State.chargeWear c g s).log = s.log ∧ (State.chargeWear c g s).port = s.port ∧
    (State.chargeWear c g s).pending = s.pending := by
  and_intros <;> (unfold State.chargeWear; (repeat' split) <;> simp)

/-- Reading a footage counter touches no more. -/
@[simp] theorem State.readFootage_frame (c : CabConfig) (b : Fin 4) (v : Nat) (s : State) :
    (State.readFootage c b v s).node = s.node ∧ (State.readFootage c b v s).clock = s.clock ∧
    (State.readFootage c b v s).time = s.time ∧ (State.readFootage c b v s).timers = s.timers ∧
    (State.readFootage c b v s).pins = s.pins ∧ (State.readFootage c b v s).peers = s.peers ∧
    (State.readFootage c b v s).link = s.link ∧
    (State.readFootage c b v s).directives = s.directives ∧
    (State.readFootage c b v s).holds = s.holds ∧
    (State.readFootage c b v s).inventory = s.inventory ∧ (State.readFootage c b v s).seq = s.seq ∧
    (State.readFootage c b v s).circ = s.circ ∧ (State.readFootage c b v s).bal = s.bal ∧
    (State.readFootage c b v s).depth = s.depth ∧ (State.readFootage c b v s).log = s.log ∧
    (State.readFootage c b v s).port = s.port ∧ (State.readFootage c b v s).pending = s.pending := by
  and_intros <;> (unfold State.readFootage State.readCounter; dsimp only; (repeat' split) <;> simp)

/-- Reading an additive counter touches no more. -/
@[simp] theorem State.readAdditive_frame (c : CabConfig) (k : Fin 4) (v : Nat) (s : State) :
    (State.readAdditive c k v s).node = s.node ∧ (State.readAdditive c k v s).clock = s.clock ∧
    (State.readAdditive c k v s).time = s.time ∧ (State.readAdditive c k v s).timers = s.timers ∧
    (State.readAdditive c k v s).pins = s.pins ∧ (State.readAdditive c k v s).peers = s.peers ∧
    (State.readAdditive c k v s).link = s.link ∧
    (State.readAdditive c k v s).directives = s.directives ∧
    (State.readAdditive c k v s).holds = s.holds ∧
    (State.readAdditive c k v s).inventory = s.inventory ∧
    (State.readAdditive c k v s).seq = s.seq ∧ (State.readAdditive c k v s).circ = s.circ ∧
    (State.readAdditive c k v s).bal = s.bal ∧ (State.readAdditive c k v s).depth = s.depth ∧
    (State.readAdditive c k v s).log = s.log ∧ (State.readAdditive c k v s).port = s.port ∧
    (State.readAdditive c k v s).pending = s.pending := by
  and_intros <;> (unfold State.readAdditive State.readCounter; (repeat' split) <;> simp)

/-- A HEAD arrival at the meter touches no more. -/
@[simp] theorem State.meterHead_frame (a : HeadAnnounce) (s : State) :
    (State.meterHead a s).node = s.node ∧ (State.meterHead a s).clock = s.clock ∧
    (State.meterHead a s).time = s.time ∧ (State.meterHead a s).timers = s.timers ∧
    (State.meterHead a s).pins = s.pins ∧ (State.meterHead a s).peers = s.peers ∧
    (State.meterHead a s).link = s.link ∧ (State.meterHead a s).directives = s.directives ∧
    (State.meterHead a s).holds = s.holds ∧ (State.meterHead a s).inventory = s.inventory ∧
    (State.meterHead a s).seq = s.seq ∧ (State.meterHead a s).circ = s.circ ∧
    (State.meterHead a s).bal = s.bal ∧ (State.meterHead a s).depth = s.depth ∧
    (State.meterHead a s).log = s.log ∧ (State.meterHead a s).port = s.port ∧
    (State.meterHead a s).pending = s.pending := by
  and_intros <;> (unfold State.meterHead State.asCab; (repeat' split) <;> simp [fourIndexes])

/-- A MUD arrival at the meter touches no more. -/
@[simp] theorem State.meterMud_frame (a : MudAnnounce) (s : State) :
    (State.meterMud a s).node = s.node ∧ (State.meterMud a s).clock = s.clock ∧
    (State.meterMud a s).time = s.time ∧ (State.meterMud a s).timers = s.timers ∧
    (State.meterMud a s).pins = s.pins ∧ (State.meterMud a s).peers = s.peers ∧
    (State.meterMud a s).link = s.link ∧ (State.meterMud a s).directives = s.directives ∧
    (State.meterMud a s).holds = s.holds ∧ (State.meterMud a s).inventory = s.inventory ∧
    (State.meterMud a s).seq = s.seq ∧ (State.meterMud a s).circ = s.circ ∧
    (State.meterMud a s).bal = s.bal ∧ (State.meterMud a s).depth = s.depth ∧
    (State.meterMud a s).log = s.log ∧ (State.meterMud a s).port = s.port ∧
    (State.meterMud a s).pending = s.pending := by
  and_intros <;> (unfold State.meterMud State.asCab; (repeat' split) <;> simp [fourIndexes])

/-- A HANDLER arrival at the meter touches no more. -/
@[simp] theorem State.meterHandler_frame (a : HandlerAnnounce) (s : State) :
    (State.meterHandler a s).node = s.node ∧ (State.meterHandler a s).clock = s.clock ∧
    (State.meterHandler a s).time = s.time ∧ (State.meterHandler a s).timers = s.timers ∧
    (State.meterHandler a s).pins = s.pins ∧ (State.meterHandler a s).peers = s.peers ∧
    (State.meterHandler a s).link = s.link ∧ (State.meterHandler a s).directives = s.directives ∧
    (State.meterHandler a s).holds = s.holds ∧ (State.meterHandler a s).inventory = s.inventory ∧
    (State.meterHandler a s).seq = s.seq ∧ (State.meterHandler a s).circ = s.circ ∧
    (State.meterHandler a s).bal = s.bal ∧ (State.meterHandler a s).depth = s.depth ∧
    (State.meterHandler a s).log = s.log ∧ (State.meterHandler a s).port = s.port ∧
    (State.meterHandler a s).pending = s.pending := by
  and_intros <;> (unfold State.meterHandler State.asCab State.readCounter; (repeat' split) <;> simp)

end Sys2Proof.Machine
end

