-- ==== Sys2Proof/Laws/Sequencer.lean ====
section
/-! SUPPORT. What the sequencer's operations leave unchanged (chapter 5). -/

namespace Sys2Proof.Machine

/-- A cycle started touches the sequencer alone. -/
theorem State.startCycle_frame' {k : CycleKind} {s t : State} (h : s.startCycle k = .ok t) :
    t = { s with seq := t.seq } := by
  have hf : ∀ (x : State) (st : Step), x.enterStep st = { x with seq := (x.enterStep st).seq } := by
    intro x st
    unfold State.enterStep State.writeMarker
    (repeat' split) <;> rfl
  unfold State.startCycle at h
  dsimp only at h
  (repeat' split at h) <;> cases h <;> exact hf _ _

/-- Writing the marker touches the sequencer alone. -/
@[simp] theorem State.writeMarker_frame (s : State) :
    (State.writeMarker s).node = s.node ∧ (State.writeMarker s).clock = s.clock ∧
    (State.writeMarker s).time = s.time ∧ (State.writeMarker s).timers = s.timers ∧
    (State.writeMarker s).pins = s.pins ∧ (State.writeMarker s).peers = s.peers ∧
    (State.writeMarker s).link = s.link ∧ (State.writeMarker s).directives = s.directives ∧
    (State.writeMarker s).holds = s.holds ∧ (State.writeMarker s).inventory = s.inventory ∧
    (State.writeMarker s).circ = s.circ ∧ (State.writeMarker s).bal = s.bal ∧
    (State.writeMarker s).depth = s.depth ∧ (State.writeMarker s).log = s.log ∧
    (State.writeMarker s).meter = s.meter ∧ (State.writeMarker s).port = s.port ∧
    (State.writeMarker s).causes = s.causes ∧ (State.writeMarker s).pending = s.pending := by
  and_intros <;> (unfold State.writeMarker; (repeat' split) <;> simp)

/-- Entering a step touches the sequencer alone. -/
@[simp] theorem State.enterStep_frame (st : Step) (s : State) :
    (State.enterStep st s).node = s.node ∧ (State.enterStep st s).clock = s.clock ∧
    (State.enterStep st s).time = s.time ∧ (State.enterStep st s).timers = s.timers ∧
    (State.enterStep st s).pins = s.pins ∧ (State.enterStep st s).peers = s.peers ∧
    (State.enterStep st s).link = s.link ∧ (State.enterStep st s).directives = s.directives ∧
    (State.enterStep st s).holds = s.holds ∧ (State.enterStep st s).inventory = s.inventory ∧
    (State.enterStep st s).circ = s.circ ∧ (State.enterStep st s).bal = s.bal ∧
    (State.enterStep st s).depth = s.depth ∧ (State.enterStep st s).log = s.log ∧
    (State.enterStep st s).meter = s.meter ∧ (State.enterStep st s).port = s.port ∧
    (State.enterStep st s).causes = s.causes ∧ (State.enterStep st s).pending = s.pending := by
  and_intros <;> (unfold State.enterStep; (repeat' split) <;> simp)

/-- A cycle fault touches sequencer, hold set, hold frame slot and causes. -/
@[simp] theorem State.cycleFault_frame (c : FaultCause) (s : State) :
    (State.cycleFault c s).node = s.node ∧ (State.cycleFault c s).clock = s.clock ∧
    (State.cycleFault c s).time = s.time ∧ (State.cycleFault c s).timers = s.timers ∧
    (State.cycleFault c s).pins = s.pins ∧ (State.cycleFault c s).peers = s.peers ∧
    (State.cycleFault c s).directives = s.directives ∧
    (State.cycleFault c s).inventory = s.inventory ∧ (State.cycleFault c s).circ = s.circ ∧
    (State.cycleFault c s).bal = s.bal ∧ (State.cycleFault c s).depth = s.depth ∧
    (State.cycleFault c s).log = s.log ∧ (State.cycleFault c s).meter = s.meter ∧
    (State.cycleFault c s).port = s.port ∧ (State.cycleFault c s).pending = s.pending := by
  and_intros <;> (unfold State.cycleFault; (repeat' split) <;> simp)

/-- Going on with a plan touches the sequencer alone. -/
@[simp] theorem State.planNext_frame (s : State) :
    (State.planNext s).node = s.node ∧ (State.planNext s).clock = s.clock ∧
    (State.planNext s).time = s.time ∧ (State.planNext s).timers = s.timers ∧
    (State.planNext s).pins = s.pins ∧ (State.planNext s).peers = s.peers ∧
    (State.planNext s).link = s.link ∧ (State.planNext s).directives = s.directives ∧
    (State.planNext s).holds = s.holds ∧ (State.planNext s).inventory = s.inventory ∧
    (State.planNext s).circ = s.circ ∧ (State.planNext s).bal = s.bal ∧
    (State.planNext s).depth = s.depth ∧ (State.planNext s).log = s.log ∧
    (State.planNext s).meter = s.meter ∧ (State.planNext s).port = s.port ∧
    (State.planNext s).causes = s.causes ∧ (State.planNext s).pending = s.pending := by
  and_intros <;>
  (unfold State.planNext; dsimp only; (repeat' split) <;>
    first | rfl | (rename_i h; rw [State.startCycle_frame' h]))

/-- Completing a cycle touches the sequencer alone. -/
@[simp] theorem State.completeCycle_frame (s : State) :
    (State.completeCycle s).node = s.node ∧ (State.completeCycle s).clock = s.clock ∧
    (State.completeCycle s).time = s.time ∧ (State.completeCycle s).timers = s.timers ∧
    (State.completeCycle s).pins = s.pins ∧ (State.completeCycle s).peers = s.peers ∧
    (State.completeCycle s).link = s.link ∧ (State.completeCycle s).directives = s.directives ∧
    (State.completeCycle s).holds = s.holds ∧ (State.completeCycle s).inventory = s.inventory ∧
    (State.completeCycle s).circ = s.circ ∧ (State.completeCycle s).bal = s.bal ∧
    (State.completeCycle s).depth = s.depth ∧ (State.completeCycle s).log = s.log ∧
    (State.completeCycle s).meter = s.meter ∧ (State.completeCycle s).port = s.port ∧
    (State.completeCycle s).causes = s.causes ∧ (State.completeCycle s).pending = s.pending := by
  and_intros <;> (unfold State.completeCycle; (repeat' split) <;> simp)

/-- Ending a step touches inventory, sequencer, hold set, hold frame slot and causes. -/
@[simp] theorem State.endStep_frame (s : State) :
    (State.endStep s).node = s.node ∧ (State.endStep s).clock = s.clock ∧
    (State.endStep s).time = s.time ∧ (State.endStep s).timers = s.timers ∧
    (State.endStep s).pins = s.pins ∧ (State.endStep s).peers = s.peers ∧
    (State.endStep s).directives = s.directives ∧ (State.endStep s).circ = s.circ ∧
    (State.endStep s).bal = s.bal ∧ (State.endStep s).depth = s.depth ∧
    (State.endStep s).log = s.log ∧ (State.endStep s).meter = s.meter ∧
    (State.endStep s).port = s.port ∧ (State.endStep s).pending = s.pending := by
  and_intros <;> (unfold State.endStep; (repeat' split) <;> simp)

/-- Ending steps touches no more. -/
@[simp] theorem State.settleSteps_frame (n : Nat) (s : State) :
    (State.settleSteps n s).node = s.node ∧ (State.settleSteps n s).clock = s.clock ∧
    (State.settleSteps n s).time = s.time ∧ (State.settleSteps n s).timers = s.timers ∧
    (State.settleSteps n s).pins = s.pins ∧ (State.settleSteps n s).peers = s.peers ∧
    (State.settleSteps n s).directives = s.directives ∧ (State.settleSteps n s).circ = s.circ ∧
    (State.settleSteps n s).bal = s.bal ∧ (State.settleSteps n s).depth = s.depth ∧
    (State.settleSteps n s).log = s.log ∧ (State.settleSteps n s).meter = s.meter ∧
    (State.settleSteps n s).port = s.port ∧ (State.settleSteps n s).pending = s.pending := by
  induction n generalizing s with
  | zero => simp [State.settleSteps]
  | succ n ih =>
    unfold State.settleSteps
    split
    · have h := ih s.endStep
      simpa using h
    · simp

/-- Settling touches no more. -/
@[simp] theorem State.settle_frame (s : State) :
    (State.settle s).node = s.node ∧ (State.settle s).clock = s.clock ∧
    (State.settle s).time = s.time ∧ (State.settle s).timers = s.timers ∧
    (State.settle s).pins = s.pins ∧ (State.settle s).peers = s.peers ∧
    (State.settle s).directives = s.directives ∧ (State.settle s).circ = s.circ ∧
    (State.settle s).bal = s.bal ∧ (State.settle s).depth = s.depth ∧ (State.settle s).log = s.log ∧
    (State.settle s).meter = s.meter ∧ (State.settle s).port = s.port ∧
    (State.settle s).pending = s.pending := by
  and_intros <;> (unfold State.settle; (repeat' split) <;> simp)

/-- Entering RECOVER touches sequencer, hold set, hold frame slot and causes. -/
@[simp] theorem State.enterRecover_frame (s : State) :
    (State.enterRecover s).node = s.node ∧ (State.enterRecover s).clock = s.clock ∧
    (State.enterRecover s).time = s.time ∧ (State.enterRecover s).timers = s.timers ∧
    (State.enterRecover s).pins = s.pins ∧ (State.enterRecover s).peers = s.peers ∧
    (State.enterRecover s).directives = s.directives ∧
    (State.enterRecover s).inventory = s.inventory ∧ (State.enterRecover s).circ = s.circ ∧
    (State.enterRecover s).bal = s.bal ∧ (State.enterRecover s).depth = s.depth ∧
    (State.enterRecover s).log = s.log ∧ (State.enterRecover s).meter = s.meter ∧
    (State.enterRecover s).port = s.port ∧ (State.enterRecover s).pending = s.pending := by
  and_intros <;> (unfold State.enterRecover; (repeat' split) <;> simp)

end Sys2Proof.Machine
end

