-- ==== Sys2Proof/Laws/Strata.lean ====
section
/-! SUPPORT. What the operations of the strata log and the depth tracker leave unchanged (chapters 8 and 9). -/

namespace Sys2Proof.Machine

/-- A mismatch touches the log and the causes. -/
@[simp] theorem State.depthMismatch_frame (s : State) :
    (State.depthMismatch s).node = s.node ∧ (State.depthMismatch s).clock = s.clock ∧
    (State.depthMismatch s).time = s.time ∧ (State.depthMismatch s).timers = s.timers ∧
    (State.depthMismatch s).pins = s.pins ∧ (State.depthMismatch s).peers = s.peers ∧
    (State.depthMismatch s).link = s.link ∧ (State.depthMismatch s).directives = s.directives ∧
    (State.depthMismatch s).holds = s.holds ∧ (State.depthMismatch s).inventory = s.inventory ∧
    (State.depthMismatch s).seq = s.seq ∧ (State.depthMismatch s).circ = s.circ ∧
    (State.depthMismatch s).bal = s.bal ∧ (State.depthMismatch s).depth = s.depth ∧
    (State.depthMismatch s).meter = s.meter ∧ (State.depthMismatch s).port = s.port ∧
    (State.depthMismatch s).pending = s.pending := by
  and_intros <;> (unfold State.depthMismatch; (repeat' split) <;> simp)

/-- A MUD arrival at the log touches the log alone. -/
@[simp] theorem State.logMudArrival_frame (b : BalanceCondition) (s : State) :
    (State.logMudArrival b s).node = s.node ∧ (State.logMudArrival b s).clock = s.clock ∧
    (State.logMudArrival b s).time = s.time ∧ (State.logMudArrival b s).timers = s.timers ∧
    (State.logMudArrival b s).pins = s.pins ∧ (State.logMudArrival b s).peers = s.peers ∧
    (State.logMudArrival b s).link = s.link ∧ (State.logMudArrival b s).directives = s.directives ∧
    (State.logMudArrival b s).holds = s.holds ∧ (State.logMudArrival b s).inventory = s.inventory ∧
    (State.logMudArrival b s).seq = s.seq ∧ (State.logMudArrival b s).circ = s.circ ∧
    (State.logMudArrival b s).bal = s.bal ∧ (State.logMudArrival b s).depth = s.depth ∧
    (State.logMudArrival b s).meter = s.meter ∧ (State.logMudArrival b s).port = s.port ∧
    (State.logMudArrival b s).causes = s.causes ∧ (State.logMudArrival b s).pending = s.pending := by
  and_intros <;> (unfold State.logMudArrival; dsimp only; split <;> simp)

/-- Writing records touches the log and the causes. -/
@[simp] theorem State.writeRecords_frame (b : List StrataBody) (s : State) :
    (State.writeRecords b s).node = s.node ∧ (State.writeRecords b s).clock = s.clock ∧
    (State.writeRecords b s).time = s.time ∧ (State.writeRecords b s).timers = s.timers ∧
    (State.writeRecords b s).pins = s.pins ∧ (State.writeRecords b s).peers = s.peers ∧
    (State.writeRecords b s).link = s.link ∧ (State.writeRecords b s).directives = s.directives ∧
    (State.writeRecords b s).holds = s.holds ∧ (State.writeRecords b s).inventory = s.inventory ∧
    (State.writeRecords b s).seq = s.seq ∧ (State.writeRecords b s).circ = s.circ ∧
    (State.writeRecords b s).bal = s.bal ∧ (State.writeRecords b s).depth = s.depth ∧
    (State.writeRecords b s).meter = s.meter ∧ (State.writeRecords b s).port = s.port ∧
    (State.writeRecords b s).pending = s.pending := by
  and_intros <;> (unfold State.writeRecords; (repeat' split) <;> simp)

/-- A close touches no more. -/
@[simp] theorem State.closeInterval_frame (b d : Nat) (l : Lithology) (s : State) :
    (State.closeInterval b d l s).node = s.node ∧ (State.closeInterval b d l s).clock = s.clock ∧
    (State.closeInterval b d l s).time = s.time ∧ (State.closeInterval b d l s).timers = s.timers ∧
    (State.closeInterval b d l s).pins = s.pins ∧ (State.closeInterval b d l s).peers = s.peers ∧
    (State.closeInterval b d l s).link = s.link ∧
    (State.closeInterval b d l s).directives = s.directives ∧
    (State.closeInterval b d l s).holds = s.holds ∧
    (State.closeInterval b d l s).inventory = s.inventory ∧
    (State.closeInterval b d l s).seq = s.seq ∧ (State.closeInterval b d l s).circ = s.circ ∧
    (State.closeInterval b d l s).bal = s.bal ∧ (State.closeInterval b d l s).depth = s.depth ∧
    (State.closeInterval b d l s).meter = s.meter ∧ (State.closeInterval b d l s).port = s.port ∧
    (State.closeInterval b d l s).pending = s.pending := by
  and_intros <;> (unfold State.closeInterval; (repeat' split) <;> simp)

/-- A rise of Dmax at the log touches no more. -/
@[simp] theorem State.logRise_frame (o n : Nat) (s : State) :
    (State.logRise o n s).node = s.node ∧ (State.logRise o n s).clock = s.clock ∧
    (State.logRise o n s).time = s.time ∧ (State.logRise o n s).timers = s.timers ∧
    (State.logRise o n s).pins = s.pins ∧ (State.logRise o n s).peers = s.peers ∧
    (State.logRise o n s).link = s.link ∧ (State.logRise o n s).directives = s.directives ∧
    (State.logRise o n s).holds = s.holds ∧ (State.logRise o n s).inventory = s.inventory ∧
    (State.logRise o n s).seq = s.seq ∧ (State.logRise o n s).circ = s.circ ∧
    (State.logRise o n s).bal = s.bal ∧ (State.logRise o n s).depth = s.depth ∧
    (State.logRise o n s).meter = s.meter ∧ (State.logRise o n s).port = s.port ∧
    (State.logRise o n s).pending = s.pending := by
  and_intros <;> (unfold State.logRise; dsimp only; (repeat' split) <;> simp)

/-- A split touches the log alone. -/
@[simp] theorem State.splitInterval_frame (l : Lithology) (s : State) :
    (State.splitInterval l s).node = s.node ∧ (State.splitInterval l s).clock = s.clock ∧
    (State.splitInterval l s).time = s.time ∧ (State.splitInterval l s).timers = s.timers ∧
    (State.splitInterval l s).pins = s.pins ∧ (State.splitInterval l s).peers = s.peers ∧
    (State.splitInterval l s).link = s.link ∧ (State.splitInterval l s).directives = s.directives ∧
    (State.splitInterval l s).holds = s.holds ∧ (State.splitInterval l s).inventory = s.inventory ∧
    (State.splitInterval l s).seq = s.seq ∧ (State.splitInterval l s).circ = s.circ ∧
    (State.splitInterval l s).bal = s.bal ∧ (State.splitInterval l s).depth = s.depth ∧
    (State.splitInterval l s).meter = s.meter ∧ (State.splitInterval l s).port = s.port ∧
    (State.splitInterval l s).causes = s.causes ∧ (State.splitInterval l s).pending = s.pending := by
  and_intros <;> (unfold State.splitInterval; (repeat' split) <;> simp)

/-- Writing a lower part touches the log and the causes. -/
@[simp] theorem State.writeLower_frame (b : StrataBody) (s : State) :
    (State.writeLower b s).node = s.node ∧ (State.writeLower b s).clock = s.clock ∧
    (State.writeLower b s).time = s.time ∧ (State.writeLower b s).timers = s.timers ∧
    (State.writeLower b s).pins = s.pins ∧ (State.writeLower b s).peers = s.peers ∧
    (State.writeLower b s).link = s.link ∧ (State.writeLower b s).directives = s.directives ∧
    (State.writeLower b s).holds = s.holds ∧ (State.writeLower b s).inventory = s.inventory ∧
    (State.writeLower b s).seq = s.seq ∧ (State.writeLower b s).circ = s.circ ∧
    (State.writeLower b s).bal = s.bal ∧ (State.writeLower b s).depth = s.depth ∧
    (State.writeLower b s).meter = s.meter ∧ (State.writeLower b s).port = s.port ∧
    (State.writeLower b s).pending = s.pending := by
  and_intros <;> (unfold State.writeLower; (repeat' split) <;> simp)

/-- A reclassification touches the log alone. -/
@[simp] theorem State.reclassified_frame (l : Lithology) (s : State) :
    (State.reclassified l s).node = s.node ∧ (State.reclassified l s).clock = s.clock ∧
    (State.reclassified l s).time = s.time ∧ (State.reclassified l s).timers = s.timers ∧
    (State.reclassified l s).pins = s.pins ∧ (State.reclassified l s).peers = s.peers ∧
    (State.reclassified l s).link = s.link ∧ (State.reclassified l s).directives = s.directives ∧
    (State.reclassified l s).holds = s.holds ∧ (State.reclassified l s).inventory = s.inventory ∧
    (State.reclassified l s).seq = s.seq ∧ (State.reclassified l s).circ = s.circ ∧
    (State.reclassified l s).bal = s.bal ∧ (State.reclassified l s).depth = s.depth ∧
    (State.reclassified l s).meter = s.meter ∧ (State.reclassified l s).port = s.port ∧
    (State.reclassified l s).causes = s.causes ∧ (State.reclassified l s).pending = s.pending := by
  and_intros <;> (unfold State.reclassified; (repeat' split) <;> simp)

/-- Reopening the interval touches the log alone. -/
@[simp] theorem State.reopenInterval_frame (n : Nat) (s : State) :
    (State.reopenInterval n s).node = s.node ∧ (State.reopenInterval n s).clock = s.clock ∧
    (State.reopenInterval n s).time = s.time ∧ (State.reopenInterval n s).timers = s.timers ∧
    (State.reopenInterval n s).pins = s.pins ∧ (State.reopenInterval n s).peers = s.peers ∧
    (State.reopenInterval n s).link = s.link ∧ (State.reopenInterval n s).directives = s.directives ∧
    (State.reopenInterval n s).holds = s.holds ∧ (State.reopenInterval n s).inventory = s.inventory ∧
    (State.reopenInterval n s).seq = s.seq ∧ (State.reopenInterval n s).circ = s.circ ∧
    (State.reopenInterval n s).bal = s.bal ∧ (State.reopenInterval n s).depth = s.depth ∧
    (State.reopenInterval n s).meter = s.meter ∧ (State.reopenInterval n s).port = s.port ∧
    (State.reopenInterval n s).causes = s.causes ∧ (State.reopenInterval n s).pending = s.pending := by
  and_intros <;> simp [State.reopenInterval]

/-- A discard touches the log alone. -/
@[simp] theorem State.discardInterval_frame (p : Nat) (s : State) :
    (State.discardInterval p s).node = s.node ∧ (State.discardInterval p s).clock = s.clock ∧
    (State.discardInterval p s).time = s.time ∧ (State.discardInterval p s).timers = s.timers ∧
    (State.discardInterval p s).pins = s.pins ∧ (State.discardInterval p s).peers = s.peers ∧
    (State.discardInterval p s).link = s.link ∧ (State.discardInterval p s).directives = s.directives ∧
    (State.discardInterval p s).holds = s.holds ∧ (State.discardInterval p s).inventory = s.inventory ∧
    (State.discardInterval p s).seq = s.seq ∧ (State.discardInterval p s).circ = s.circ ∧
    (State.discardInterval p s).bal = s.bal ∧ (State.discardInterval p s).depth = s.depth ∧
    (State.discardInterval p s).meter = s.meter ∧ (State.discardInterval p s).port = s.port ∧
    (State.discardInterval p s).causes = s.causes ∧
    (State.discardInterval p s).pending = s.pending := by
  and_intros <;> simp [State.discardInterval]

/-- A new hole at the log touches the log and the causes. -/
@[simp] theorem State.logNewHole_frame (o : Nat) (s : State) :
    (State.logNewHole o s).node = s.node ∧ (State.logNewHole o s).clock = s.clock ∧
    (State.logNewHole o s).time = s.time ∧ (State.logNewHole o s).timers = s.timers ∧
    (State.logNewHole o s).pins = s.pins ∧ (State.logNewHole o s).peers = s.peers ∧
    (State.logNewHole o s).link = s.link ∧ (State.logNewHole o s).directives = s.directives ∧
    (State.logNewHole o s).holds = s.holds ∧ (State.logNewHole o s).inventory = s.inventory ∧
    (State.logNewHole o s).seq = s.seq ∧ (State.logNewHole o s).circ = s.circ ∧
    (State.logNewHole o s).bal = s.bal ∧ (State.logNewHole o s).depth = s.depth ∧
    (State.logNewHole o s).meter = s.meter ∧ (State.logNewHole o s).port = s.port ∧
    (State.logNewHole o s).pending = s.pending := by
  and_intros <;> (unfold State.logNewHole; dsimp only; (repeat' split) <;> simp)

/-- Beginning a scan touches the log and its timer. -/
@[simp] theorem State.beginScan_frame (s : State) :
    (State.beginScan s).node = s.node ∧ (State.beginScan s).clock = s.clock ∧
    (State.beginScan s).time = s.time ∧ (State.beginScan s).pins = s.pins ∧
    (State.beginScan s).peers = s.peers ∧ (State.beginScan s).link = s.link ∧
    (State.beginScan s).directives = s.directives ∧ (State.beginScan s).holds = s.holds ∧
    (State.beginScan s).inventory = s.inventory ∧ (State.beginScan s).seq = s.seq ∧
    (State.beginScan s).circ = s.circ ∧ (State.beginScan s).bal = s.bal ∧
    (State.beginScan s).depth = s.depth ∧ (State.beginScan s).meter = s.meter ∧
    (State.beginScan s).port = s.port ∧ (State.beginScan s).causes = s.causes ∧
    (State.beginScan s).pending = s.pending := by
  and_intros <;> (unfold State.beginScan; (repeat' split) <;> simp)

/-- A record that is stored lies within the run of numbers (R141). -/
theorem StrataLog.record_within {g : StrataLog} {n : Nat} {r : StrataRecord} (h : g.record n = some r) :
    g.oldest ≤ n ∧ n - g.oldest < g.store.length ∧ g.store[n - g.oldest]? = some r := by
  unfold StrataLog.record at h
  split at h
  · exact ⟨‹_›, (List.getElem?_eq_some_iff.mp h).1, h⟩
  · cases h

/-- In a contiguous store the record of a number bears that number (R141). -/
theorem StrataLog.record_sequence {g : StrataLog} {n : Nat} {r : StrataRecord} (whole : g.contiguous)
    (h : g.record n = some r) : r.sequence = n := by
  obtain ⟨low, inside, found⟩ := g.record_within h
  have place := congrArg (fun l => l[n - g.oldest]?) whole.1
  simp only [List.getElem?_map, found, Option.map_some, List.getElem?_range' inside] at place
  have := Option.some.inj place
  unfold StrataLog.oldest at *
  omega

/-- Checking a record touches the log, its timer and the causes. -/
@[simp] theorem State.scanRecord_frame (n : Nat) (r : StrataRecord) (s : State) :
    (State.scanRecord n r s).node = s.node ∧ (State.scanRecord n r s).clock = s.clock ∧
    (State.scanRecord n r s).time = s.time ∧ (State.scanRecord n r s).pins = s.pins ∧
    (State.scanRecord n r s).peers = s.peers ∧ (State.scanRecord n r s).link = s.link ∧
    (State.scanRecord n r s).directives = s.directives ∧ (State.scanRecord n r s).holds = s.holds ∧
    (State.scanRecord n r s).inventory = s.inventory ∧ (State.scanRecord n r s).seq = s.seq ∧
    (State.scanRecord n r s).circ = s.circ ∧ (State.scanRecord n r s).bal = s.bal ∧
    (State.scanRecord n r s).depth = s.depth ∧ (State.scanRecord n r s).meter = s.meter ∧
    (State.scanRecord n r s).port = s.port ∧ (State.scanRecord n r s).pending = s.pending := by
  and_intros <;> (unfold State.scanRecord; dsimp only; (repeat' split) <;> simp)

/-- Judging on-bottom touches the tracker and the log. -/
@[simp] theorem State.judgeBottom_frame (c : HeadConfig) (s : State) :
    (State.judgeBottom c s).node = s.node ∧ (State.judgeBottom c s).clock = s.clock ∧
    (State.judgeBottom c s).time = s.time ∧ (State.judgeBottom c s).timers = s.timers ∧
    (State.judgeBottom c s).pins = s.pins ∧ (State.judgeBottom c s).peers = s.peers ∧
    (State.judgeBottom c s).link = s.link ∧ (State.judgeBottom c s).directives = s.directives ∧
    (State.judgeBottom c s).holds = s.holds ∧ (State.judgeBottom c s).inventory = s.inventory ∧
    (State.judgeBottom c s).seq = s.seq ∧ (State.judgeBottom c s).circ = s.circ ∧
    (State.judgeBottom c s).bal = s.bal ∧ (State.judgeBottom c s).meter = s.meter ∧
    (State.judgeBottom c s).port = s.port ∧ (State.judgeBottom c s).causes = s.causes ∧
    (State.judgeBottom c s).pending = s.pending := by
  and_intros <;> (unfold State.judgeBottom; (repeat' split) <;> simp)

/-- Taking a new D touches the tracker, the log and the causes. -/
@[simp] theorem State.advanceTo_frame (d : Nat) (s : State) :
    (State.advanceTo d s).node = s.node ∧ (State.advanceTo d s).clock = s.clock ∧
    (State.advanceTo d s).time = s.time ∧ (State.advanceTo d s).timers = s.timers ∧
    (State.advanceTo d s).pins = s.pins ∧ (State.advanceTo d s).peers = s.peers ∧
    (State.advanceTo d s).link = s.link ∧ (State.advanceTo d s).directives = s.directives ∧
    (State.advanceTo d s).holds = s.holds ∧ (State.advanceTo d s).inventory = s.inventory ∧
    (State.advanceTo d s).seq = s.seq ∧ (State.advanceTo d s).circ = s.circ ∧
    (State.advanceTo d s).bal = s.bal ∧ (State.advanceTo d s).meter = s.meter ∧
    (State.advanceTo d s).port = s.port ∧ (State.advanceTo d s).pending = s.pending := by
  and_intros <;> (unfold State.advanceTo; (repeat' split) <;> simp)

/-- A recomputation touches no more. -/
@[simp] theorem State.recomputed_frame (c : HeadConfig) (s : State) :
    (State.recomputed c s).node = s.node ∧ (State.recomputed c s).clock = s.clock ∧
    (State.recomputed c s).time = s.time ∧ (State.recomputed c s).timers = s.timers ∧
    (State.recomputed c s).pins = s.pins ∧ (State.recomputed c s).peers = s.peers ∧
    (State.recomputed c s).link = s.link ∧ (State.recomputed c s).directives = s.directives ∧
    (State.recomputed c s).holds = s.holds ∧ (State.recomputed c s).inventory = s.inventory ∧
    (State.recomputed c s).seq = s.seq ∧ (State.recomputed c s).circ = s.circ ∧
    (State.recomputed c s).bal = s.bal ∧ (State.recomputed c s).meter = s.meter ∧
    (State.recomputed c s).port = s.port ∧ (State.recomputed c s).pending = s.pending := by
  and_intros <;> (unfold State.recomputed; dsimp only; split <;> simp)

/-- An encoder fault touches no more. -/
@[simp] theorem State.encoderFault_frame (c : HeadConfig) (s : State) :
    (State.encoderFault c s).node = s.node ∧ (State.encoderFault c s).clock = s.clock ∧
    (State.encoderFault c s).time = s.time ∧ (State.encoderFault c s).timers = s.timers ∧
    (State.encoderFault c s).pins = s.pins ∧ (State.encoderFault c s).peers = s.peers ∧
    (State.encoderFault c s).link = s.link ∧ (State.encoderFault c s).directives = s.directives ∧
    (State.encoderFault c s).holds = s.holds ∧ (State.encoderFault c s).inventory = s.inventory ∧
    (State.encoderFault c s).seq = s.seq ∧ (State.encoderFault c s).circ = s.circ ∧
    (State.encoderFault c s).bal = s.bal ∧ (State.encoderFault c s).meter = s.meter ∧
    (State.encoderFault c s).port = s.port ∧ (State.encoderFault c s).pending = s.pending := by
  and_intros <;> (unfold State.encoderFault; (repeat' split) <;> simp)

/-- A count touches no more. -/
@[simp] theorem State.counted_frame (c : HeadConfig) (u : Bool) (s : State) :
    (State.counted c u s).node = s.node ∧ (State.counted c u s).clock = s.clock ∧
    (State.counted c u s).time = s.time ∧ (State.counted c u s).timers = s.timers ∧
    (State.counted c u s).pins = s.pins ∧ (State.counted c u s).peers = s.peers ∧
    (State.counted c u s).link = s.link ∧ (State.counted c u s).directives = s.directives ∧
    (State.counted c u s).holds = s.holds ∧ (State.counted c u s).inventory = s.inventory ∧
    (State.counted c u s).seq = s.seq ∧ (State.counted c u s).circ = s.circ ∧
    (State.counted c u s).bal = s.bal ∧ (State.counted c u s).meter = s.meter ∧
    (State.counted c u s).port = s.port ∧ (State.counted c u s).pending = s.pending := by
  and_intros <;> (unfold State.counted; dsimp only; generalize (if u = true then min c.travelCount (s.depth.count + 1) else s.depth.count - 1) = n; (repeat' split) <;> simp)

/-- A homing touches the tracker and the log. -/
@[simp] theorem State.homed_frame (c : HeadConfig) (s : State) :
    (State.homed c s).node = s.node ∧ (State.homed c s).clock = s.clock ∧
    (State.homed c s).time = s.time ∧ (State.homed c s).timers = s.timers ∧
    (State.homed c s).pins = s.pins ∧ (State.homed c s).peers = s.peers ∧
    (State.homed c s).link = s.link ∧ (State.homed c s).directives = s.directives ∧
    (State.homed c s).holds = s.holds ∧ (State.homed c s).inventory = s.inventory ∧
    (State.homed c s).seq = s.seq ∧ (State.homed c s).circ = s.circ ∧
    (State.homed c s).bal = s.bal ∧ (State.homed c s).meter = s.meter ∧
    (State.homed c s).port = s.port ∧ (State.homed c s).causes = s.causes ∧
    (State.homed c s).pending = s.pending := by
  and_intros <;> (unfold State.homed; (repeat' split) <;> simp)

/-- A resync touches the tracker, the log and the causes. -/
@[simp] theorem State.resynced_frame (c : HeadConfig) (l : Nat) (s : State) :
    (State.resynced c l s).node = s.node ∧ (State.resynced c l s).clock = s.clock ∧
    (State.resynced c l s).time = s.time ∧ (State.resynced c l s).timers = s.timers ∧
    (State.resynced c l s).pins = s.pins ∧ (State.resynced c l s).peers = s.peers ∧
    (State.resynced c l s).link = s.link ∧ (State.resynced c l s).directives = s.directives ∧
    (State.resynced c l s).holds = s.holds ∧ (State.resynced c l s).inventory = s.inventory ∧
    (State.resynced c l s).seq = s.seq ∧ (State.resynced c l s).circ = s.circ ∧
    (State.resynced c l s).bal = s.bal ∧ (State.resynced c l s).meter = s.meter ∧
    (State.resynced c l s).port = s.port ∧ (State.resynced c l s).pending = s.pending := by
  and_intros <;> (unfold State.resynced; dsimp only; split <;> simp)

/-- A change of L touches no more. -/
@[simp] theorem State.lengthChanged_frame (c : HeadConfig) (l : Nat) (s : State) :
    (State.lengthChanged c l s).node = s.node ∧ (State.lengthChanged c l s).clock = s.clock ∧
    (State.lengthChanged c l s).time = s.time ∧ (State.lengthChanged c l s).timers = s.timers ∧
    (State.lengthChanged c l s).pins = s.pins ∧ (State.lengthChanged c l s).peers = s.peers ∧
    (State.lengthChanged c l s).link = s.link ∧
    (State.lengthChanged c l s).directives = s.directives ∧
    (State.lengthChanged c l s).holds = s.holds ∧
    (State.lengthChanged c l s).inventory = s.inventory ∧ (State.lengthChanged c l s).seq = s.seq ∧
    (State.lengthChanged c l s).circ = s.circ ∧ (State.lengthChanged c l s).bal = s.bal ∧
    (State.lengthChanged c l s).meter = s.meter ∧ (State.lengthChanged c l s).port = s.port ∧
    (State.lengthChanged c l s).pending = s.pending := by
  and_intros <;> (unfold State.lengthChanged; dsimp only; split <;> simp)

/-- A HANDLER arrival at the tracker touches no more. -/
@[simp] theorem State.depthHandlerArrival_frame (c : HeadConfig) (a : HandlerAnnounce) (s : State) :
    (State.depthHandlerArrival c a s).node = s.node ∧
    (State.depthHandlerArrival c a s).clock = s.clock ∧
    (State.depthHandlerArrival c a s).time = s.time ∧
    (State.depthHandlerArrival c a s).timers = s.timers ∧
    (State.depthHandlerArrival c a s).pins = s.pins ∧
    (State.depthHandlerArrival c a s).peers = s.peers ∧
    (State.depthHandlerArrival c a s).link = s.link ∧
    (State.depthHandlerArrival c a s).directives = s.directives ∧
    (State.depthHandlerArrival c a s).holds = s.holds ∧
    (State.depthHandlerArrival c a s).inventory = s.inventory ∧
    (State.depthHandlerArrival c a s).seq = s.seq ∧
    (State.depthHandlerArrival c a s).circ = s.circ ∧
    (State.depthHandlerArrival c a s).bal = s.bal ∧
    (State.depthHandlerArrival c a s).meter = s.meter ∧
    (State.depthHandlerArrival c a s).port = s.port ∧
    (State.depthHandlerArrival c a s).pending = s.pending := by
  and_intros <;> (unfold State.depthHandlerArrival; dsimp only; (repeat' split) <;> simp)

/-- RUNNING entry at the tracker touches the tracker and the log. -/
@[simp] theorem State.depthAtEntry_frame (s : State) :
    (State.depthAtEntry s).node = s.node ∧ (State.depthAtEntry s).clock = s.clock ∧
    (State.depthAtEntry s).time = s.time ∧ (State.depthAtEntry s).timers = s.timers ∧
    (State.depthAtEntry s).pins = s.pins ∧ (State.depthAtEntry s).peers = s.peers ∧
    (State.depthAtEntry s).link = s.link ∧ (State.depthAtEntry s).directives = s.directives ∧
    (State.depthAtEntry s).holds = s.holds ∧ (State.depthAtEntry s).inventory = s.inventory ∧
    (State.depthAtEntry s).seq = s.seq ∧ (State.depthAtEntry s).circ = s.circ ∧
    (State.depthAtEntry s).bal = s.bal ∧ (State.depthAtEntry s).meter = s.meter ∧
    (State.depthAtEntry s).port = s.port ∧ (State.depthAtEntry s).causes = s.causes ∧
    (State.depthAtEntry s).pending = s.pending := by
  and_intros <;> (unfold State.depthAtEntry State.asHead; dsimp only; (repeat' split) <;> simp)

end Sys2Proof.Machine
end

