-- ==== Sys2Proof/Laws/Arrivals.lean ====
section
/-! SUPPORT. What the peer view table, yields and arrivals leave unchanged (chapter 1). -/

namespace Sys2Proof.Machine

/-- A new MUD owner touches the locked mark and the kept condition. -/
@[simp] theorem State.mudOwnerChanged_frame (s : State) :
    (State.mudOwnerChanged s).node = s.node ∧ (State.mudOwnerChanged s).clock = s.clock ∧
    (State.mudOwnerChanged s).time = s.time ∧ (State.mudOwnerChanged s).timers = s.timers ∧
    (State.mudOwnerChanged s).pins = s.pins ∧ (State.mudOwnerChanged s).peers = s.peers ∧
    (State.mudOwnerChanged s).link = s.link ∧ (State.mudOwnerChanged s).directives = s.directives ∧
    (State.mudOwnerChanged s).holds = s.holds ∧ (State.mudOwnerChanged s).inventory = s.inventory ∧
    (State.mudOwnerChanged s).circ = s.circ ∧ (State.mudOwnerChanged s).bal = s.bal ∧
    (State.mudOwnerChanged s).depth = s.depth ∧ (State.mudOwnerChanged s).meter = s.meter ∧
    (State.mudOwnerChanged s).port = s.port ∧ (State.mudOwnerChanged s).causes = s.causes ∧
    (State.mudOwnerChanged s).pending = s.pending := by
  and_intros <;> rfl

/-- Replacing the table touches no more. -/
@[simp] theorem State.withPeers_frame (v : Vector PeerEntry 8) (s : State) :
    (State.withPeers v s).node = s.node ∧ (State.withPeers v s).clock = s.clock ∧
    (State.withPeers v s).time = s.time ∧ (State.withPeers v s).timers = s.timers ∧
    (State.withPeers v s).pins = s.pins ∧ (State.withPeers v s).link = s.link ∧
    (State.withPeers v s).directives = s.directives ∧ (State.withPeers v s).holds = s.holds ∧
    (State.withPeers v s).inventory = s.inventory ∧ (State.withPeers v s).circ = s.circ ∧
    (State.withPeers v s).bal = s.bal ∧ (State.withPeers v s).depth = s.depth ∧
    (State.withPeers v s).meter = s.meter ∧ (State.withPeers v s).port = s.port ∧
    (State.withPeers v s).causes = s.causes ∧ (State.withPeers v s).pending = s.pending := by
  and_intros <;> (unfold State.withPeers; dsimp only; split <;> simp)

/-- Changing an entry touches no more. -/
@[simp] theorem State.mapPeer_frame (st : Station) (f : PeerEntry → PeerEntry) (s : State) :
    (State.mapPeer st f s).node = s.node ∧ (State.mapPeer st f s).clock = s.clock ∧
    (State.mapPeer st f s).time = s.time ∧ (State.mapPeer st f s).timers = s.timers ∧
    (State.mapPeer st f s).pins = s.pins ∧ (State.mapPeer st f s).link = s.link ∧
    (State.mapPeer st f s).directives = s.directives ∧ (State.mapPeer st f s).holds = s.holds ∧
    (State.mapPeer st f s).inventory = s.inventory ∧ (State.mapPeer st f s).circ = s.circ ∧
    (State.mapPeer st f s).bal = s.bal ∧ (State.mapPeer st f s).depth = s.depth ∧
    (State.mapPeer st f s).meter = s.meter ∧ (State.mapPeer st f s).port = s.port ∧
    (State.mapPeer st f s).causes = s.causes ∧ (State.mapPeer st f s).pending = s.pending := by
  and_intros <;> (unfold State.mapPeer; (repeat' split) <;> simp)

/-- Stopping a role's work touches its timers, its log marks, or the sequencer and the hold set. -/
@[simp] theorem State.stopWork_frame (r : Role) (s : State) :
    (State.stopWork r s).node = s.node ∧ (State.stopWork r s).clock = s.clock ∧
    (State.stopWork r s).time = s.time ∧ (State.stopWork r s).pins = s.pins ∧
    (State.stopWork r s).peers = s.peers ∧ (State.stopWork r s).directives = s.directives ∧
    (State.stopWork r s).inventory = s.inventory ∧ (State.stopWork r s).circ = s.circ ∧
    (State.stopWork r s).bal = s.bal ∧ (State.stopWork r s).depth = s.depth ∧
    (State.stopWork r s).meter = s.meter ∧ (State.stopWork r s).port = s.port ∧
    (State.stopWork r s).pending = s.pending := by
  and_intros <;> (unfold State.stopWork; (repeat' split) <;> simp)

/-- A yield touches the roles yielded, the due kinds, the causes and the role's work. -/
@[simp] theorem State.yieldRole_frame (r : Role) (s : State) :
    (State.yieldRole r s).clock = s.clock ∧ (State.yieldRole r s).time = s.time ∧
    (State.yieldRole r s).pins = s.pins ∧ (State.yieldRole r s).peers = s.peers ∧
    (State.yieldRole r s).directives = s.directives ∧
    (State.yieldRole r s).inventory = s.inventory ∧ (State.yieldRole r s).circ = s.circ ∧
    (State.yieldRole r s).bal = s.bal ∧ (State.yieldRole r s).depth = s.depth ∧
    (State.yieldRole r s).meter = s.meter ∧ (State.yieldRole r s).port = s.port ∧
    (State.yieldRole r s).pending = s.pending := by
  and_intros <;> (unfold State.yieldRole; (repeat' split) <;> simp)

/-- Yields touch no more. -/
@[simp] theorem State.yieldRoles_frame (f : Role → Bool) (s : State) :
    (State.yieldRoles f s).clock = s.clock ∧ (State.yieldRoles f s).time = s.time ∧
    (State.yieldRoles f s).pins = s.pins ∧ (State.yieldRoles f s).peers = s.peers ∧
    (State.yieldRoles f s).directives = s.directives ∧
    (State.yieldRoles f s).inventory = s.inventory ∧ (State.yieldRoles f s).circ = s.circ ∧
    (State.yieldRoles f s).bal = s.bal ∧ (State.yieldRoles f s).depth = s.depth ∧
    (State.yieldRoles f s).meter = s.meter ∧ (State.yieldRoles f s).port = s.port ∧
    (State.yieldRoles f s).pending = s.pending := by
  simp only [State.yieldRoles, roleTable, List.foldl]
  and_intros <;> ((repeat' split) <;> simp)

/-- A MUD arrival at the sequencer touches the sequencer alone. -/
@[simp] theorem State.sequencerMudArrival_frame (a : MudAnnounce) (s : State) :
    (State.sequencerMudArrival a s).node = s.node ∧
    (State.sequencerMudArrival a s).clock = s.clock ∧
    (State.sequencerMudArrival a s).time = s.time ∧
    (State.sequencerMudArrival a s).timers = s.timers ∧
    (State.sequencerMudArrival a s).pins = s.pins ∧
    (State.sequencerMudArrival a s).peers = s.peers ∧
    (State.sequencerMudArrival a s).link = s.link ∧
    (State.sequencerMudArrival a s).directives = s.directives ∧
    (State.sequencerMudArrival a s).holds = s.holds ∧
    (State.sequencerMudArrival a s).inventory = s.inventory ∧
    (State.sequencerMudArrival a s).circ = s.circ ∧ (State.sequencerMudArrival a s).bal = s.bal ∧
    (State.sequencerMudArrival a s).depth = s.depth ∧ (State.sequencerMudArrival a s).log = s.log ∧
    (State.sequencerMudArrival a s).meter = s.meter ∧
    (State.sequencerMudArrival a s).port = s.port ∧
    (State.sequencerMudArrival a s).causes = s.causes ∧
    (State.sequencerMudArrival a s).pending = s.pending := by
  and_intros <;> (unfold State.sequencerMudArrival; (repeat' split) <;> simp)

/-- The readers of an arrival touch their own blocks and the causes. -/
@[simp] theorem State.readArrival_frame (s : State) (a : Announcement) :
    (State.readArrival s a).node = s.node ∧ (State.readArrival s a).clock = s.clock ∧
    (State.readArrival s a).time = s.time ∧ (State.readArrival s a).timers = s.timers ∧
    (State.readArrival s a).pins = s.pins ∧ (State.readArrival s a).peers = s.peers ∧
    (State.readArrival s a).link = s.link ∧ (State.readArrival s a).directives = s.directives ∧
    (State.readArrival s a).holds = s.holds ∧ (State.readArrival s a).inventory = s.inventory ∧
    (State.readArrival s a).bal = s.bal ∧ (State.readArrival s a).port = s.port ∧
    (State.readArrival s a).pending = s.pending := by
  and_intros <;> (unfold State.readArrival State.asHead; dsimp only; (repeat' split) <;> simp)

/-- An announcement arrival leaves the clock, the lines, the balance unit, the port and the directive results alone. -/
@[simp] theorem State.announcementArrival_frame (st : Station) (a : Announcement) (s : State) :
    (State.announcementArrival st a s).clock = s.clock ∧
    (State.announcementArrival st a s).time = s.time ∧
    (State.announcementArrival st a s).pins = s.pins ∧
    (State.announcementArrival st a s).directives = s.directives ∧
    (State.announcementArrival st a s).bal = s.bal ∧
    (State.announcementArrival st a s).port = s.port ∧
    (State.announcementArrival st a s).pending = s.pending := by
  and_intros <;> (unfold State.announcementArrival; dsimp only; (repeat' split) <;> simp)

/-- A PRESENCE arrival reaches neither the job blocks' measurements nor the port. -/
@[simp] theorem State.presenceArrival_frame (st : Station) (p : Presence) (s : State) :
    (State.presenceArrival st p s).clock = s.clock ∧ (State.presenceArrival st p s).time = s.time ∧
    (State.presenceArrival st p s).pins = s.pins ∧
    (State.presenceArrival st p s).directives = s.directives ∧
    (State.presenceArrival st p s).circ = s.circ ∧ (State.presenceArrival st p s).bal = s.bal ∧
    (State.presenceArrival st p s).depth = s.depth ∧
    (State.presenceArrival st p s).meter = s.meter ∧ (State.presenceArrival st p s).port = s.port ∧
    (State.presenceArrival st p s).pending = s.pending := by
  and_intros <;> (unfold State.presenceArrival; dsimp only; (repeat' split) <;> simp)

end Sys2Proof.Machine
end

