-- ==== Sys2Proof/Laws/Codes.lean ====
section
/-! SUPPORT. Lemmas of the small shared definitions: places of fixed tables, saturating counts, bytes and numbers,
codes and names. -/

namespace Sys2Proof

@[simp] theorem put_get_same {α : Type} {n : Nat} (v : Vector α n) (i : Fin n) (x : α) : (put v i x)[i] = x := by
  simp [put]

theorem put_get_other {α : Type} {n : Nat} (v : Vector α n) (i j : Fin n) (x : α) (h : i ≠ j) :
    (put v i x)[j] = v[j] := by
  have : i.val ≠ j.val := fun e => h (Fin.ext e)
  simp [put, this]

theorem satAdd_le (limit a b : Nat) : satAdd limit a b ≤ limit := Nat.min_le_left _ _

@[simp] theorem satAdd_zero (limit a : Nat) (h : a ≤ limit) : satAdd limit a 0 = a := by
  simp [satAdd, Nat.min_eq_right h]

theorem RoleSet.insert_has (r : RoleSet) (x y : Role) : (r.insert x).has y = (decide (x = y) || r.has y) := by
  cases x <;> cases y <;> simp [RoleSet.insert, RoleSet.has]

namespace Machine

/-! ### Bytes and numbers -/

@[simp] theorem be_length (n v : Nat) : (be n v).length = n := by
  induction n with
  | zero => rfl
  | succ n ih => simp [be, ih]

theorem ofBytes_append (xs ys : List Byte) : ofBytes (xs ++ ys) = ofBytes xs * 256 ^ ys.length + ofBytes ys := by
  suffices h : ∀ (ys : List Byte) (acc : Nat),
      ys.foldl (fun a b => a * 256 + b.toNat) acc =
        acc * 256 ^ ys.length + ys.foldl (fun a b => a * 256 + b.toNat) 0 by
    simp only [ofBytes, List.foldl_append]
    exact h ys _
  intro ys
  induction ys with
  | nil => simp
  | cons y ys ih =>
    intro acc
    simp only [List.foldl_cons, List.length_cons]
    rw [ih, ih (0 * 256 + y.toNat), Nat.pow_succ]
    simp only [Nat.add_mul, Nat.zero_mul, Nat.zero_add, Nat.mul_assoc]
    rw [Nat.mul_comm 256 (256 ^ ys.length)]
    omega

theorem ofBytes_be (n v : Nat) : ofBytes (be n v) = v % 256 ^ n := by
  induction n with
  | zero => simp [be, ofBytes, Nat.mod_one]
  | succ n ih =>
    have : be (n + 1) v = [BitVec.ofNat 8 (v / 256 ^ n)] ++ be n v := rfl
    rw [this, ofBytes_append, ih, be_length]
    have one : ofBytes [BitVec.ofNat 8 (v / 256 ^ n)] = v / 256 ^ n % 256 := by simp [ofBytes]
    rw [one, Nat.pow_succ, Nat.mod_mul, Nat.mul_comm (v / 256 ^ n % 256)]
    omega

/-- A number with one more byte below it. -/
theorem toNat_append_byte {n : Nat} (high : BitVec n) (low : Byte) :
    (high ++ low).toNat = high.toNat * 256 + low.toNat := by
  rw [BitVec.toNat_append, Nat.shiftLeft_eq, Nat.mul_comm, ← Nat.two_pow_add_eq_or_of_lt low.isLt,
    Nat.mul_comm]

@[simp] theorem wordAt_pair (a b : Byte) (more : List Byte) :
    wordAt (a :: b :: more) 0 = (a ++ b : BitVec 16) := by
  apply BitVec.eq_of_toNat_eq
  have := a.isLt; have := b.isLt
  simp [wordAt, numAt, ofBytes, toNat_append_byte]; omega

@[simp] theorem quadAt_four (a b c d : Byte) (more : List Byte) :
    quadAt (a :: b :: c :: d :: more) 0 = (a ++ b ++ c ++ d : BitVec 32) := by
  apply BitVec.eq_of_toNat_eq
  have := a.isLt; have := b.isLt; have := c.isLt; have := d.isLt
  simp [quadAt, numAt, ofBytes, toNat_append_byte]; omega

/-! The fields of a body, read from its first byte on. -/

@[simp] theorem wordAt_succ (a : Byte) (more : List Byte) (i : Nat) : wordAt (a :: more) (i + 1) = wordAt more i :=
  rfl
@[simp] theorem quadAt_succ (a : Byte) (more : List Byte) (i : Nat) : quadAt (a :: more) (i + 1) = quadAt more i :=
  rfl
@[simp] theorem byteAt_succ (a : Byte) (more : List Byte) (i : Nat) : byteAt (a :: more) (i + 1) = byteAt more i :=
  rfl
@[simp] theorem byteAt_head (a : Byte) (more : List Byte) : byteAt (a :: more) 0 = a := by
  simp [byteAt, numAt, ofBytes]

/-! ### Codes and names (R170): a name is at its code's place -/

theorem roleTable_code (x : Role) : roleTable[codeOf roleTable x]? = some x := by cases x <;> rfl
theorem nodeStateTable_code (x : NodeState) : nodeStateTable[codeOf nodeStateTable x]? = some x := by
  cases x <;> rfl
theorem holdReasonTable_code (x : HoldReason) : holdReasonTable[codeOf holdReasonTable x]? = some x := by
  cases x <;> rfl
theorem directiveTable_code (x : DirectiveCode) : directiveTable[codeOf directiveTable x]? = some x := by
  cases x <;> rfl
theorem pumpStateTable_code (x : PumpState) : pumpStateTable[codeOf pumpStateTable x]? = some x := by
  cases x <;> rfl
theorem circStateTable_code (x : CircState) : circStateTable[codeOf circStateTable x]? = some x := by
  cases x <;> rfl
theorem conditionTable_code (x : BalanceCondition) : conditionTable[codeOf conditionTable x]? = some x := by
  cases x <;> rfl
theorem additiveTable_code (x : Additive) : additiveTable[codeOf additiveTable x]? = some x := by cases x <;> rfl
theorem cycleKindTable_code (x : CycleKind) : cycleKindTable[codeOf cycleKindTable x]? = some x := by
  cases x <;> rfl
theorem stepTable_code (x : Option Step) : stepTable[codeOf stepTable x]? = some x := by
  rcases x with _ | x
  · rfl
  · cases x <;> rfl
theorem rodKindTable_code (x : RodKind) : rodKindTable[codeOf rodKindTable x]? = some x := by cases x <;> rfl
theorem trackingTable_code (x : TrackingState) : trackingTable[codeOf trackingTable x]? = some x := by
  cases x <;> rfl
theorem lithologyTable_code (x : Lithology) : lithologyTable[codeOf lithologyTable x]? = some x := by
  cases x <;> rfl
theorem jobStateTable_code (x : JobState) : jobStateTable[codeOf jobStateTable x]? = some x := by cases x <;> rfl
theorem activityTable_code (x : Activity) : activityTable[codeOf activityTable x]? = some x := by cases x <;> rfl

theorem roleSetOf_roleNibble (r : RoleSet) : roleSetOf (roleNibble r) = r := by
  rcases r with ⟨a, b, c, d⟩
  cases a <;> cases b <;> cases c <;> cases d <;> rfl

/-! ### Names as bits of a frame: no two names share a code -/

@[simp] theorem CircState.bits_inj (x y : CircState) : x.bits = y.bits ↔ x = y := by
  cases x <;> cases y <;> decide
@[simp] theorem PumpState.bits_inj (x y : PumpState) : x.bits = y.bits ↔ x = y := by
  cases x <;> cases y <;> decide
@[simp] theorem CycleKind.bits_inj (x y : CycleKind) : x.bits = y.bits ↔ x = y := by
  cases x <;> cases y <;> decide
@[simp] theorem Activity.bits_inj (x y : Activity) : x.bits = y.bits ↔ x = y := by
  cases x <;> cases y <;> decide
@[simp] theorem HoldReason.bits_inj (x y : HoldReason) : x.bits = y.bits ↔ x = y := by
  cases x <;> cases y <;> decide

/-! ### Answers -/

/-- A request that no earlier decode waits for is answered in the buffer (R164, log 6). -/
theorem Port.finish_direct (p : Port) (i : Instr) (r : Reply) (h : i ∉ p.taken) : p.finish i r = p.fill r := by
  simp [Port.finish, h]

/-- The answer of the request last decoded, which the buffer waits on, fills it (R164). -/
theorem Port.finish_last (p : Port) (i : Instr) (r : Reply) (earlier : List Instr)
    (taken : p.taken = earlier ++ [i]) (once : i ∉ earlier) (waits : p.status = .pending) :
    p.finish i r = ({ p with taken := earlier } : Port).fill r := by
  have left : (earlier ++ [i]).erase i = earlier := by rw [List.erase_append_right _ once]; simp
  simp [Port.finish, taken, waits, once, left]

/-- The answer of any other request taken goes nowhere (R164). -/
theorem Port.finish_earlier (p : Port) (i : Instr) (r : Reply) (taken : i ∈ p.taken)
    (other : p.status ≠ .pending ∨ i ∈ p.taken.dropLast) :
    p.finish i r = { p with taken := p.taken.erase i } := by
  rcases other with h | h <;> simp [Port.finish, taken, h]

theorem State.roleRequest_active (s : State) (r : Role) (f : State → Answered) (held : s.holdsRole r = true)
    (kept : s.yields r = false) : s.roleRequest r f = f s := by
  simp [State.roleRequest, held, kept]

/-- An acting block's request is carried out. -/
theorem State.runningRequest_acts (s : State) (r : Role) (f : State → Answered) (held : s.holdsRole r = true)
    (kept : s.yields r = false) (running : s.running = true) : s.runningRequest r f = f s := by
  simp [State.runningRequest, State.roleRequest, held, kept, running]

end Machine

end Sys2Proof
end

