-- ==== Sys2Proof/Laws/Wire.lean ====
section
/-! SUPPORT. Bit stuffing and the receiver (R19, R20, R25): a reader that stands at stuffed bits reads the bits
that were stuffed, and stuffing adds at most one bit in four. -/

namespace Sys2Proof.Machine

/-- The reader stands before the stuffed form of `bits`, followed by `tail`. A due inserted bit is still
ahead of it. -/
def Reader.before (r : Reader) (bits tail : List Level) : Prop :=
  r.run ≤ 5 ∧ r.rest =
    if r.run = 5 then (!r.last) :: (stuffFrom (!r.last) 1 bits ++ tail)
    else stuffFrom r.last r.run bits ++ tail

theorem Reader.start_before (bits tail : List Level) :
    Reader.before ⟨true, 0, stuff bits ++ tail⟩ bits tail := by
  simp [Reader.before, stuff]

theorem Reader.bit_before (r : Reader) (b : Level) (bits tail : List Level) (h : r.before (b :: bits) tail) :
    ∃ r', r.bit = .got b r' ∧ r'.before bits tail := by
  rcases r with ⟨last, run, rest⟩
  obtain ⟨bound, shape⟩ := h
  simp only at bound shape
  by_cases five : run = 5
  · subst five
    simp only [if_pos] at shape
    subst shape
    refine ⟨⟨b, if b = !last then 2 else 1, stuffFrom b (if b = !last then 2 else 1) bits ++ tail⟩, ?_, ?_⟩
    · cases last <;> cases b <;> simp [Reader.bit, Reader.unstuff, stuffFrom]
    · cases last <;> cases b <;> simp [Reader.before]
  · simp only [if_neg five] at shape
    subst shape
    by_cases full : b = last ∧ run = 4
    · obtain ⟨rfl, rfl⟩ := full
      refine ⟨⟨b, 5, (!b) :: (stuffFrom (!b) 1 bits ++ tail)⟩, ?_, ?_⟩
      · simp [Reader.bit, Reader.unstuff, stuffFrom]
      · simp [Reader.before]
    · refine ⟨⟨b, if b = last then run + 1 else 1,
        stuffFrom b (if b = last then run + 1 else 1) bits ++ tail⟩, ?_, ?_⟩
      · simp [Reader.bit, Reader.unstuff, five, stuffFrom, full]
      · by_cases same : b = last
        · have : run ≠ 4 := fun e => full ⟨same, e⟩
          simp only [Reader.before, if_pos same]
          exact ⟨by omega, by rw [if_neg (by omega)]⟩
        · simp [Reader.before, same]

/-- Reading `n` bits of a number's low `n` bits gives them, most significant first. -/
theorem Reader.field_before (n v acc : Nat) (r : Reader) (bits tail : List Level)
    (h : r.before (bitsOf n v ++ bits) tail) :
    ∃ r', Reader.field acc n r = .got (acc * 2 ^ n + v % 2 ^ n) r' ∧ r'.before bits tail := by
  induction n generalizing acc r with
  | zero => exact ⟨r, by simp [Reader.field, Nat.mod_one], h⟩
  | succ n ih =>
    obtain ⟨r1, read, h1⟩ := Reader.bit_before r (v.testBit n) _ tail h
    obtain ⟨r2, field, h2⟩ := ih (acc * 2 + (v.testBit n).toNat) r1 h1
    refine ⟨r2, ?_, h2⟩
    rw [Reader.field, read]
    simp only [field]
    have split : v % 2 ^ (n + 1) = (v.testBit n).toNat * 2 ^ n + v % 2 ^ n := by
      rw [Nat.pow_succ, Nat.mod_mul, Nat.toNat_testBit, Nat.mul_comm]
      omega
    rw [split, Nat.pow_succ, Nat.add_mul, Nat.mul_assoc, Nat.mul_comm 2 (2 ^ n), Nat.add_assoc]

/-- Reading the bytes that were sent. -/
theorem Reader.bytes_before (bs : List Byte) (r : Reader) (bits tail : List Level)
    (h : r.before (bs.flatMap (fun b => bitsOf 8 b.toNat) ++ bits) tail) :
    ∃ r', Reader.bytes bs.length r = .got bs r' ∧ r'.before bits tail := by
  induction bs generalizing r with
  | nil => exact ⟨r, rfl, h⟩
  | cons b bs ih =>
    rw [List.flatMap_cons, List.append_assoc] at h
    obtain ⟨r1, first, h1⟩ := Reader.field_before 8 b.toNat 0 r _ tail h
    obtain ⟨r2, others, h2⟩ := ih r1 h1
    refine ⟨r2, ?_, h2⟩
    have same : BitVec.ofNat 8 (0 * 2 ^ 8 + b.toNat % 2 ^ 8) = b := by
      rw [Nat.zero_mul, Nat.zero_add, Nat.mod_eq_of_lt b.isLt, BitVec.ofNat_toNat, BitVec.setWidth_eq]
    simp only [List.length_cons, Reader.bytes, first, others, same]

/-- After the stuffed part, a due inserted bit apart, only the tail is left. -/
theorem Reader.unstuff_end (r : Reader) (tail : List Level) (h : r.before [] tail) :
    ∃ r', r.unstuff = .got () r' ∧ r'.rest = tail := by
  rcases r with ⟨last, run, rest⟩
  obtain ⟨_, shape⟩ := h
  simp only at shape
  by_cases five : run = 5
  · subst five
    simp only [if_pos, stuffFrom, List.nil_append] at shape
    subst shape
    exact ⟨⟨!last, 1, tail⟩, by cases last <;> simp [Reader.unstuff], rfl⟩
  · simp only [if_neg five, stuffFrom, List.nil_append] at shape
    exact ⟨⟨last, run, rest⟩, by simp [Reader.unstuff, five], shape⟩

@[simp] theorem bitsOf_length (n v : Nat) : (bitsOf n v).length = n := by
  induction n with
  | zero => rfl
  | succ n ih => simp [bitsOf, ih]

theorem stuffFrom_length (last : Level) (run : Nat) (bits : List Level) :
    4 * (stuffFrom last run bits).length ≤ 5 * bits.length + (run - 1) := by
  induction bits generalizing last run with
  | nil => simp [stuffFrom]
  | cons b bs ih =>
    rw [stuffFrom]
    split
    · rename_i h
      have := ih (!b) 1
      simp only [List.length_cons]
      omega
    · have := ih b (if b = last then run + 1 else 1)
      simp only [List.length_cons]
      by_cases same : b = last
      · simp only [if_pos same] at this ⊢
        omega
      · simp only [if_neg same] at this ⊢
        omega

/-- Stuffing adds at most one bit in four. -/
theorem stuff_length (bits : List Level) : 4 * (stuff bits).length ≤ 5 * bits.length := by
  have := stuffFrom_length true 0 bits
  simpa [stuff] using this

/-! ### Reading back (R29 to R31) -/

theorem markedBits_fst (parts : List BitPart) (bits : List Level) :
    (markedBits parts bits).map (·.1) = bits := by
  induction bits generalizing parts with
  | nil => rfl
  | cons b bs ih => simp [markedBits, ih]

theorem stuffMarked_fst (last : Level) (run : Nat) (bits : List (Level × BitPart)) :
    (stuffMarked last run bits).map (·.1) = stuffFrom last run (bits.map (·.1)) := by
  induction bits generalizing last run with
  | nil => rfl
  | cons b bs ih =>
    rw [stuffMarked, List.map_cons, stuffFrom]
    split <;> simp [ih]

/-- The bits driven are those of the line. -/
theorem drivenBits_fst (source : Station) (f : Frame) : (drivenBits source f).map (·.1) = lineBits source f := by
  simp [drivenBits, lineBits, stuff, stuffMarked_fst, markedBits_fst]

/-- Bits that read back as sent leave the outcome to the bits after them. -/
theorem sentRow_agrees (before rest : List (Level × BitPart)) (levels : List Level) :
    sentRow (before ++ rest) (before.map (·.1) ++ levels) = sentRow rest levels := by
  induction before with
  | nil => rfl
  | cons b bs ih => simp [sentRow, readBack, ih]

/-- A frame read back as sent is complete (R31). -/
theorem sentRow_complete (bits : List (Level × BitPart)) : sentRow bits (bits.map (·.1)) = some .frameComplete := by
  have h := sentRow_agrees bits [] []
  simpa [sentRow] using h

/-- The first bit read back wrong decides (R29, R30). -/
theorem sentRow_mismatch (before rest : List (Level × BitPart)) (sent read : Level) (part : BitPart)
    (levels : List Level) (differs : read ≠ sent) :
    sentRow (before ++ (sent, part) :: rest) (before.map (·.1) ++ read :: levels) =
      if part = .arbitration ∧ sent = true then some .arbitrationLoss else some .bitFault := by
  rw [sentRow_agrees]
  by_cases lost : part = .arbitration ∧ sent = true
  · simp [sentRow, readBack, if_neg differs, if_pos lost]
  · simp [sentRow, readBack, if_neg differs, if_neg lost]

end Sys2Proof.Machine
end

