-- ==== Sys2Proof/Tests/Slice0.lean ====
section
/-! SUPPORT. The model's own tests: the form checks refuse what they name, single steps give the figures of the
manual's worked cases, and for every statement of Certificates/Slice0/Obligations.lean that has hypotheses a
concrete state and operands meet each of its cases. -/

namespace Sys2Proof.Tests

open Sys2Proof.Machine

-- one theorem after the other: each is checked by the kernel alone, and waiting threads cost memory
set_option Elab.async false

/-! ### Fixtures -/

def mudConfig : MudConfig :=
  { pits := 2, areas := #v[45000, 30000, 0, 0], waterFactor := 10, steel := 1500, hole := 18000
    deadband := 500, gainThreshold := 30, lossThreshold := 30, displacement1 := 15000
    displacement2 := 1000, efficiency1 := 95, efficiency2 := 90, returnsThreshold := 2
    bleedThreshold := 300, suctionPit := 1, startWatermark := 200, lowWatermark := 100 }

def headConfig : HeadConfig := ⟨14000, 500, 800, 50, 50, 1000⟩

def cabConfig : CabConfig :=
  { timeRates := #v[0, 0, 14500, 0, 0, 0, 0], bandRates := #v[0, 0, 4200, 0]
    additivePrices := #v[250, 0, 0, 0], wearPrice := 40, windows := [⟨360, 256⟩, ⟨1080, 320⟩] }

def all : RoleSet := ⟨true, true, true, true⟩

def mudA : MudAnnounce :=
  { circ := CircState.bits .stopped, condition := .normal, returnsAbsent := false
    pump1 := PumpState.bits .off, pump2 := PumpState.bits .off
    flowIn := 0, pressure := 0, balance := 0, gain := 12270, loss := 52500, running1 := 0, running2 := 0
    additives := #v[14, 0, 0, 0], epoch := 1, result := none }

def handlerA : HandlerAnnounce :=
  { kind := CycleKind.bits .none, stringOpen := false, permit := false, step := stepBits none
    length := 155000, entries := 0
    topRod := 0, remaining := 0, makeups := 413, breakouts := 0, epoch := 1, result := none }

def headA : HeadAnnounce :=
  { d := 152377, dmax := 152377, tracking := .tracking, onBottom := false, lithology := .sandstone, rop := 0
    sequence := 1, footage := #v[0, 0, 62410377, 0], epoch := 1, result := none }

def cabA : CabAnnounce := ⟨.opened, Activity.bits .drilling, 57, 1⟩

/-- The reason byte of a hold frame for DRILLER. -/
def drillerCode : Byte := HoldReason.bits .driller

def presence (held yielded : RoleSet) (holding : Option HoldReason) : Presence :=
  ⟨held, yielded, true, holding, 1⟩

/-- An entry whose five slots are FRESH. -/
def entry (p : Presence) : PeerEntry :=
  ⟨.stored p, .stored mudA, .stored handlerA, .stored headA, .stored cabA⟩

/-- An entry of which only the presence has been heard. -/
def present (p : Presence) : PeerEntry := { PeerEntry.unheard with presence := .stored p }

/-- Station 3 in RUNNING with all four roles, the owner of each, its own views FRESH, on an idle line, with a
frame in reception for the rows that need one. -/
def rig : State :=
  { State.reset with
    node := { State.reset.node with
      state := .running, node := some ⟨3, all, 0x3FFFF#32⟩, mud := some mudConfig
      handler := some ⟨50, 60⟩, head := some headConfig, cab := some cabConfig }
    peers := put State.reset.peers 3 (entry (presence all .empty none))
    link := { State.reset.link with line := .idle, receiving := true } }

def after (c : Instr) (s : State) : State :=
  match exec c s with
  | .next t => t
  | _ => s

/-- Status and body of the answer to a request. -/
def reply (c : Instr) (s : State) : Status × List Byte :=
  ((after c s).port.status, (after c s).port.body)

def rod (id length makeups : Nat) : Rod := ⟨id, .drillRod, length, makeups, .serviceable, none⟩

/-- The string and the part of the rack of section 4.10. -/
def handling : State :=
  { rig with inventory := { rig.inventory with
      string := [⟨900, .bit, 250, 0, .serviceable, none⟩, ⟨910, .collar, 3000, 0, .serviceable, none⟩,
        rod 2010 3047 0]
      rack := put (put rig.inventory.rack 15 (some (rod 2031 3048 48))) 16 (some (rod 2044 3050 12))
      tally := 12, adjusted := true, carousel := 14 } }

def withSeq (state : SeqState) (kind : CycleKind) (st : Step) (i : RackSlot) (s : State) : State :=
  { s with seq := { s.seq with
      state := state, kind := kind, step := some st, slot := some i, timer := 600
      fault := if state = .faulted then some .timeout else none
      marker := some ⟨kind, st, state, i, s.inventory.transit.map (·.id)⟩ } }

def withPlan (plan : TripPlan) (s : State) : State := { s with seq := { s.seq with plan := plan } }

def withTransit (r : Rod) (s : State) : State :=
  { s with inventory := { s.inventory with transit := some r } }

def withReason (r : HoldReason) (s : State) : State :=
  { s with holds := { s.holds with reasons := s.holds.reasons.set true r } }

def withEntry (st : Station) (e : HoldEntry) (s : State) : State :=
  { s with holds := { s.holds with others := put s.holds.others st (some e) } }

def withState (st : NodeState) (s : State) : State := { s with node := { s.node with state := st } }

def withPeer (st : Station) (e : PeerEntry) (s : State) : State := { s with peers := put s.peers st e }

/-- A slot with a freshness and an age in steps of 10 ms. -/
def withAge (st : Station) (n : SlotName) (f : Freshness) (age : Nat) (s : State) : State :=
  withPeer st (s.peers[st].marked n f age) s

def withLine (line : LineState) (sending : Option Frame) (s : State) : State :=
  { s with link := { s.link with line := line, receiving := false, sending := sending } }

def withCirc (c : CircState) (one two : PumpState) (s : State) : State :=
  { s with circ := { s.circ with
      state := c, pump1 := { s.circ.pump1 with state := one }
      pump2 := { s.circ.pump2 with state := two } } }

def withJob (j : JobRecord) (s : State) : State := { s with meter := { s.meter with job := j } }

def withClock (day minute second : Nat) (s : State) : State :=
  { s with clock := ⟨some ⟨day, minute, second⟩, none⟩ }

/-- The drill string of section 8.10 at its start. -/
def drilling : State :=
  { rig with
    pins := { rig.pins with headDrive := true }
    depth := { rig.depth with
      count := 2000, tracking := .tracking, d := 153200, dmax := 153200, advance := 153200
      lastL := 155000, rotation := some 0 }
    log := { rig.log with current := { rig.log.current with
      lithology := .sandstone, top := 153100, gridBase := 153100 } } }

def openJob : JobRecord :=
  { JobRecord.initial with
    state := .opened, number := some 57
    baselines := #v[some 0, some 0, some 62410000, some 0, some 12, some 0, some 0, some 0, none] }

/-- A job open at 20:00, in the second tariff window, with the residue of section 10.7. -/
def metering : State :=
  withClock 100 1200 0 (withJob { openJob with bandResidues := #v[0, 0, 100, 0] } rig)

/-! ### Form (WellFormed) -/

theorem test_request_without_a_byte_is_refused : (Instr.requestDecode []).wellFormed = false := by decide
theorem test_request_with_first_byte_zero_is_refused :
    (Instr.requestDecode [0#8]).wellFormed = false := by decide
theorem test_response_read_of_no_byte_is_refused : (Instr.responseRead 0).wellFormed = false := by decide
theorem test_long_directive_is_refused :
    (Instr.sendDirective 0 3 [0, 0, 0, 0, 0]).wellFormed = false := by decide
theorem test_long_group_is_refused :
    (Instr.configure 4 (List.replicate 66 0)).wellFormed = false := by decide
theorem test_long_directive_frame_is_refused :
    (Instr.directiveReceived 1 ⟨0, 3, [0, 0, 0, 0, 0]⟩).wellFormed = false := by decide
theorem test_well_formed_commands_pass :
    (Instr.requestDecode [1#8, 0#8]).wellFormed ∧ (Instr.responseRead 1).wellFormed ∧
    (Instr.sendDirective 0 3 [0, 0, 0, 0]).wellFormed ∧
    (Instr.configure 4 (List.replicate 65 0)).wellFormed ∧
    (Instr.directiveReceived 1 ⟨0, 3, [0, 0, 0, 0]⟩).wellFormed ∧ Instr.reset.wellFormed := by decide

/-! ### Step, port and attention -/

theorem test_no_table_word_spells_a_command : decodeTableWord 32 0 = none := by decide
theorem test_step_takes_the_front_command :
    step { rig with pending := [.unmute, .hold] } = exec .unmute { rig with pending := [.hold] } := rfl
theorem test_idle_step_counts_a_bit_time :
    (match step rig with | .next t => t.time | _ => rig.time) = ⟨0, 1⟩ := by decide +kernel

theorem test_request_is_taken_and_answered :
    (after (.requestDecode [0x23, 1, 7]) rig).port.taken = [.setCarousel 7] ∧
    (after (.setCarousel 7) (after (.requestDecode [0x23, 1, 7]) rig)).port.taken = [] ∧
    reply (.setCarousel 7) (after (.requestDecode [0x23, 1, 7]) rig) = (.ok, [7]) := by decide +kernel
theorem test_wrong_lengths_are_refused :
    reply (.requestDecode [0x23, 2, 7, 7]) rig = (.badValue, [0]) ∧
    reply (.requestDecode [0x23, 1]) rig = (.truncated, []) ∧
    reply (.requestDecode [0x99, 0]) rig = (.unknown, []) := by decide +kernel
theorem test_response_is_read_from_its_start :
    (after (.responseRead 4) (after (.setCarousel 7) rig)).port.out = [0, 0, 1, 7] ∧
    (after (.responseRead 3) (after (.responseRead 2) (after (.setCarousel 7) rig))).port.out =
      [0, 1, 7] := by decide +kernel
theorem test_status_body_begins_with_the_node : (reply .status rig).2.take 6 = [1, 0, 20, 2, 3, 15] := by
  decide +kernel
theorem test_attention_is_read_and_cleared :
    reply .readAttention rig = (.ok, [0, 1, 0, 0, 0, 3, 0xFF, 0xFF]) ∧
    reply (.clearAttention 0x10000) rig = (.ok, [0, 0, 0, 0]) := by decide +kernel
theorem test_peer_entry_is_read : (reply (.readPeer 3) rig).1 = .ok ∧
    reply (.readPeer 8) rig = (.badValue, [1]) := by decide +kernel

/-! ### Holds and the peer view table -/

theorem test_hold_places_driller : reply .hold rig = (.ok, [1, 0]) ∧
    (after .hold rig).link.holdFrame = some .set ∧ (after .hold rig).held := by decide +kernel
theorem test_release_of_a_reason_not_held :
    reply (.releaseHold 0) rig = (.notHolding, []) ∧
    reply (.releaseHold 0) (withReason .driller rig) = (.ok, [0]) := by decide +kernel
theorem test_orphaned_hold_is_cleared :
    reply (.clearHold 2) (withEntry 2 ⟨drillerCode, .orphaned, 1000⟩ rig) = (.ok, []) ∧
    reply (.clearHold 2) (withEntry 2 ⟨drillerCode, .active, 0⟩ rig) = (.notOrphaned, []) := by
  decide +kernel
theorem test_lower_presence_yields_the_role :
    (after (.presenceReceived 1 (presence ⟨false, false, true, false⟩ .empty none)) rig).node.yielded =
      ⟨false, false, true, false⟩ ∧
    (after (.presenceReceived 1 (presence ⟨false, false, true, false⟩ .empty none)) rig).owner .head =
      some 1 := by decide +kernel
theorem test_higher_presence_yields_nothing :
    (after (.presenceReceived 5 (presence all .empty none)) rig).node.yielded = .empty ∧
    (after (.presenceReceived 5 (presence all .empty (some .driller))) rig).held := by decide +kernel
theorem test_lost_presence_orphans_the_hold :
    let heard := withEntry 2 ⟨drillerCode, .active, 0⟩ (withPeer 2 (present (presence .empty .empty none)) rig)
    let s := withAge 2 .presence .stale 1000 heard
    (after (.slotLost 2 .presence) s).holds.others[2] = some ⟨drillerCode, .orphaned, 0⟩ ∧
    (after (.slotLost 2 .presence) s).causes.getLsbD 0 = true := by decide +kernel
/-- A presence that refreshes the slot first keeps it from LOST and the entry from ORPHANED (R47). -/
theorem test_refreshed_presence_is_not_lost :
    let s := withAge 2 .presence .stale 1000 (withPeer 2 (present (presence .empty .empty none)) rig)
    let refreshed := after (.presenceReceived 2 (presence .empty .empty (some .driller))) s
    after (.slotLost 2 .presence) refreshed = refreshed ∧
    refreshed.holds.others[2] = some ⟨drillerCode, .active, 0⟩ := by decide +kernel
theorem test_hold_frames_of_another_station :
    (after (.holdSetReceived 2 drillerCode) rig).holds.others[2] = some ⟨drillerCode, .active, 0⟩ ∧
    (after (.holdSetReceived 2 4) rig).holds.others[2] = some ⟨4, .active, 0⟩ ∧
    (after (.holdReleaseReceived 2) (withEntry 2 ⟨drillerCode, .active, 0⟩ rig)).held = false := by
  decide +kernel
theorem test_slot_goes_stale :
    let s := withAge 3 (.announce .head) .fresh 150 rig
    (after (.slotStale 3 (.announce .head)) s).peers[3].head = ⟨.stale, 150, some headA⟩ ∧
    (after (.slotStale 3 (.announce .head)) rig).peers[3].head = .stored headA := by decide +kernel
theorem test_silent_holder_is_orphaned :
    (after (.holdSilenceExpiry 2) (withEntry 2 ⟨drillerCode, .active, 1000⟩ rig)).holds.others[2] =
      some ⟨drillerCode, .orphaned, 1000⟩ := by decide +kernel

/-! ### Link -/

theorem test_directive_joins_the_queue :
    reply (.sendDirective 0 3 [1]) rig = (.ok, [1]) ∧
    reply (.sendDirective 0 5 []) rig = (.badValue, [2]) := by decide +kernel
theorem test_line_states_follow_the_line :
    (after .idleIntervalComplete (withLine .busy none rig)).link.line = .idle ∧
    (after .dominantEdgeSeen (withLine .idle none rig)).link.receiving = true ∧
    (after .lineJammed rig).causes.getLsbD 4 = true := by decide +kernel
theorem test_hold_frame_goes_first :
    (after .frameBegin { withReason .driller rig with
      link := { rig.link with holdFrame := some .set, due := ⟨true, true, true, true, true⟩ } }).link.sending =
      some (.holdSet drillerCode) := by decide +kernel
theorem test_eighth_bit_fault_mutes :
    (after .bitFault { withLine .owner (some .holdRelease) rig with
      link := { (withLine .owner (some .holdRelease) rig).link with faultCount := 7 } }).link.mute =
      some .faultLimit ∧
    reply .unmute { rig with link := { rig.link with mute := some .clash } } = (.ok, []) := by
  decide +kernel
theorem test_lost_arbitration_receives :
    (after .arbitrationLoss (withLine .owner (some .holdRelease) rig)).link.receiving = true := by
  decide +kernel
theorem test_own_presence_is_stored :
    (after .frameComplete (withLine .owner (some (.presence (presence all .empty none)))
      { rig with peers := State.reset.peers })).owner .mud = some 3 := by decide +kernel
theorem test_send_period_makes_all_due :
    (after .sendPeriodExpiry rig).link.due = ⟨true, true, true, true, true⟩ := by decide +kernel
theorem test_clash_mutes : (after .stationClash rig).link.mute = some .clash ∧
    (after (.frameReceiveError .badCrc) rig).link.errorCount = 1 := by decide +kernel
theorem test_directive_to_this_node_is_carried_out :
    (after (.directiveReceived 2 ⟨2, 0, [12]⟩) rig).log.current.lithology = .granite ∧
    (after (.directiveReceived 2 ⟨2, 0, [12]⟩) rig).directives.head = some ⟨2, 0, 0, 0⟩ ∧
    (after (.directiveReceived 2 ⟨2, 0, [16]⟩) rig).directives.head = some ⟨2, 0, 8, 1⟩ := by
  decide +kernel

/-- The arbitration field of section 2.9: HOLD_SET of station 4, with the stuffed recessive bit. -/
theorem test_hold_set_of_station_4_on_the_line :
    (lineBits 4 (.holdSet drillerCode)).take 9 =
      [false, false, false, false, false, true, true, false, false] := by decide +kernel
/-- Polynomial 0x8005 from preset 0xFFFF, most significant bit first, on the bytes of "123456789". -/
theorem test_crc_check_value : crc [] = 0xFFFF#16 ∧
    crc [0x31, 0x32, 0x33, 0x34, 0x35, 0x36, 0x37, 0x38, 0x39] = 0xAEE7#16 := by decide +kernel
theorem test_frames_are_read_back :
    received (lineBits 4 (.holdSet drillerCode)) = some (.holdSetReceived 4 drillerCode) ∧
    received (lineBits 1 (.announce (.mud mudA))) = some (.announcementReceived 1 (.mud mudA)) ∧
    received (lineBits 2 (.directive ⟨0, 3, [1]⟩)) = some (.directiveReceived 2 ⟨0, 3, [1]⟩) := by
  decide +kernel
/-- A valid frame may carry a code outside the tables of R170, and is delivered with it (R26). -/
theorem test_unlisted_codes_are_delivered :
    received (lineBits 4 (.holdSet 4)) = some (.holdSetReceived 4 4) ∧
    received (lineBits 1 (.announce (.mud { mudA with circ := 5 }))) =
      some (.announcementReceived 1 (.mud { mudA with circ := 5 })) := by decide +kernel
/-- Station 4 sends HOLD_SET and reads back, as told in R29 and R30, a lost arbitration bit, a stuff bit read
dominant, and a start bit read recessive. -/
theorem test_what_is_read_back_decides_the_row :
    let s := withLine .owner (some (.holdSet drillerCode))
      { rig with node := { rig.node with node := some ⟨4, all, 0⟩ } }
    s.sentRow (lineBits 4 (.holdSet drillerCode)) = some .frameComplete ∧
    s.sentRow [false, false, false, false, false, true, false] = some .arbitrationLoss ∧
    s.sentRow [false, false, false, false, false, false] = some .bitFault ∧
    s.sentRow [true] = some .bitFault ∧ s.sentRow [false, false] = none := by decide +kernel
theorem test_six_equal_bits_are_a_violation :
    received (List.replicate 6 false) = some (.frameReceiveError .stuffViolation) := by decide +kernel
theorem test_sample_frame_is_read :
    sampled (bitsOf 24 0x8104B0) = some (.pitLevelSample 1 true 1200) ∧
    sampled (bitsOf 24 0x0501F4) = none ∧ sampled (bitsOf 23 0) = none ∧
    sampled (bitsOf 24 0x8401F4) = some (.pressureSample true 500) := by decide +kernel

/-! ### Rods and cycles (sections 4.10, 5) -/

theorem test_rod_is_registered :
    reply (.registerRod 14 2050 0 3000 0) handling = (.ok, [14, 8, 2, 3]) ∧
    reply (.registerRod 14 2031 0 3000 0) handling = (.duplicateId, []) := by decide +kernel
theorem test_rod_is_unregistered :
    (after (.unregisterRod 15) handling).inventory.rack[15] = none ∧
    reply (.unregisterRod 17) handling = (.slotEmpty, []) := by decide +kernel
theorem test_rod_is_appended :
    reply (.appendString 2051 0 3000 0) handling = (.ok, [4] ++ be 4 9309) := by decide +kernel
theorem test_carousel_wraps :
    (after .carouselPulse (after (.setCarousel 59) rig)).inventory.carousel = 0 := by decide +kernel
theorem test_tally_is_corrected :
    reply (.correctTally 0xFFEC) handling = (.ok, be 4 6277) ∧
    reply .clearTally handling = (.ok, be 4 6297) := by decide +kernel
theorem test_rack_and_string_are_read :
    (reply .readRack handling).2.length = 543 ∧ (reply .readString handling).2.length = 48 := by
  decide +kernel
theorem test_makeup_fixes_the_nearest_slot :
    reply .makeup handling = (.ok, [1, 15] ++ be 2 2031) ∧
    reply .breakout handling = (.ok, [2, 14] ++ be 2 2010) := by decide +kernel
theorem test_pick_takes_the_rod :
    let s := after (.handlerInputChange .rodInLoader true) (withSeq .active .makeup .load 15 handling)
    s.inventory.transit = some (rod 2031 3048 48) ∧ s.seq.step = some .joint := by decide +kernel
theorem test_join_counts_and_wears :
    (after (.handlerInputChange .jointMade true)
      (withTransit (rod 2031 3048 49) (withSeq .active .makeup .joint 17 handling))).inventory.string.getLast? =
      some { rod 2031 3048 50 with status := .worn } := by decide +kernel
theorem test_trips_are_clamped :
    reply (.tripIn 9) handling = (.ok, [2]) ∧ reply (.tripOut 9) handling = (.ok, [3]) := by
  decide +kernel
theorem test_stopped_trip_answers_what_remained :
    reply .stopTrip (withPlan ⟨.makeup, 5, false, true, none⟩ rig) = (.ok, [5]) := by decide +kernel
theorem test_resume_goes_on :
    reply .resume (withPlan ⟨.makeup, 5, false, true, none⟩ handling) = (.ok, [5]) := by decide +kernel
theorem test_step_timer_faults_the_cycle :
    let standing := withSeq .active .makeup .load 15 handling
    let s := after .stepTimerExpiry { standing with seq := { standing.seq with timer := 1 } }
    after .stepTimerExpiry standing = standing ∧ s.seq.state = .faulted ∧
    s.holds.reasons.handlingFault ∧ s.causes.getLsbD 11 = true := by
  decide +kernel
theorem test_faulted_step_is_retried :
    reply .retryStep (withSeq .faulted .makeup .load 15 handling) = (.ok, [3]) := by decide +kernel
theorem test_abort_with_a_rod_in_transit :
    reply .abort (withTransit (rod 2031 3048 48) (withSeq .active .makeup .joint 15 handling)) =
      (.ok, [3, 0]) := by decide +kernel
theorem test_transit_is_resolved :
    reply (.resolveTransit 0 17)
      (withTransit (rod 7 3048 48) (withSeq .transitHeld .makeup .joint 15 handling)) =
      (.ok, [0, 1, 17] ++ be 4 6309) := by decide +kernel
theorem test_recovery_is_confirmed :
    reply .confirmRecovery (withReason .recovery (withSeq .recover .makeup .load 15 handling)) =
      (.ok, []) := by decide +kernel

/-! ### Circulation and balance (sections 6, 7.4) -/

/-- Suction at 300 litres, the string closed. -/
def pumping : State :=
  { rig with bal := { rig.bal with pits := put rig.bal.pits 0 ⟨some 67, false, false, some 67⟩ } }

theorem test_pump_starts : reply (.startPump 1) pumping = (.ok, [1]) ∧
    (after (.startPump 1) pumping).circ.state = .priming ∧
    reply (.startPump 1) (withReason .driller pumping) = (.held, []) := by decide +kernel
theorem test_pump_stops :
    reply (.stopPump 1) (withCirc .priming .starting .off rig) = (.ok, [0]) ∧
    (after (.stopPump 1) (withCirc .priming .starting .off rig)).circ.state = .bleeding := by
  decide +kernel
/-- A stop and a rise that come together leave a STARTING pump STOPPING in either order, whether a STOP_PUMP or low
suction stops it; a rise after the next 100 ms step does not come together with it (R91, R100, log 42). -/
theorem test_stop_and_rise_come_together :
    let starting := withCirc .priming .starting .off pumping
    let rise := Instr.pumpRunningChange .one true
    let low := Instr.pitLevelSample 0 true 20
    let queued (q : List Instr) : State := { starting with pending := q }
    let state (c : Instr) (s : State) : PumpState := (after c s).circ.pump1.state
    state (.stopPump 1) (queued [rise]) = .stopping ∧ reply (.stopPump 1) (queued [rise]) = (.ok, [3]) ∧
    state rise (after (.stopPump 1) (queued [rise])) = .stopping ∧
    state (.stopPump 1) (after rise (queued [])) = .stopping ∧
    state low (queued [rise]) = .stopping ∧ state low (after rise (queued [])) = .stopping ∧
    state (.stopPump 1) (queued [.timeBaseStep, rise]) = .off ∧
    state (.stopPump 1) (queued [.pumpRunningChange .two true]) = .off := by decide +kernel
theorem test_pump_line_confirms_a_start :
    (after (.pumpRunningChange .one true) (withCirc .priming .starting .off rig)).circ.pump1.state =
      .running ∧
    (let s := withCirc .priming .starting .off rig
     (after (.pumpTimerExpiry .one) s).causes.getLsbD 7 = true) := by decide +kernel
theorem test_unlock_needs_a_silent_handler :
    reply .unlock (withCirc .locked .off .off rig) = (.handlerHeard, []) ∧
    reply .unlock { withCirc .locked .off .off rig with peers := State.reset.peers } = (.ok, []) := by
  decide +kernel
/-- A closed arrival taken first frees the lock, and UNLOCK behind it is refused with HANDLER_HEARD (R96, log 43). -/
theorem test_unlock_after_a_closed_arrival :
    (let s := (withCirc .locked .off .off rig).readArrival (.handler handlerA)
     s.circ.state = .stopped ∧ reply .unlock s = (.handlerHeard, [])) ∧
    reply .unlock { rig with peers := State.reset.peers } = (.badState, []) := by decide +kernel
theorem test_bled_is_confirmed :
    (after .confirmBled (withCirc .bleeding .off .off rig)).circ.state = .stopped := by decide +kernel
theorem test_second_low_pressure_ends_bleeding :
    let s := after (.pressureSample true 300) (withCirc .bleeding .off .off rig)
    s.circ.state = .bleeding ∧ (after (.pressureSample true 300) s).circ.state = .stopped := by
  decide +kernel
theorem test_additives_are_counted :
    reply (.addAdditive 0 2) rig = (.ok, be 4 2) ∧ reply (.addAdditive 4 2) rig = (.badValue, [1]) := by
  decide +kernel
theorem test_pulses_are_counted :
    (after .returnPulse rig).circ.returns = 1 ∧ (after (.strokePulse .two) rig).circ.strokes2 = 1 ∧
    (after .waterPulse rig).bal.water = 1 := by decide +kernel
theorem test_low_suction_stops_the_pumps :
    let s := after (.pitLevelSample 0 true 22)
      (withCirc .circulating .running .off { pumping with pins := { rig.pins with pump1Run := true } })
    s.circ.pump1.state = .stopping ∧ s.causes.getLsbD 8 = true := by decide +kernel

/-- The period of section 7.4: two pits at 1200 and 900 mm, then 1199 and 900; 37 mm drilled. -/
def period : State :=
  { rig with bal := { rig.bal with
      pits := #v[⟨some 1199, false, false, some 1200⟩, ⟨some 900, false, false, some 900⟩,
        .atReset, .atReset]
      prevD := 152340, prevH := 152340, depthHeld := false, prevOwner := some 3, steelResidue := 40
      window := put (put rig.bal.window 0 ⟨-20000, false⟩) 1 ⟨-310000, false⟩, sum := -330000 } }

theorem test_balance_period_of_section_7_4 :
    let b := (after .balancePeriodExpiry period).bal
    b.last = -38895 ∧ b.sum = -348895 ∧ b.steelResidue = 40 ∧ b.holeResidue = 0 ∧
    b.announced = .loss ∧ b.lossTotal = 38895 ∧ b.gainTotal = 0 := by decide +kernel
theorem test_announced_balance_of_section_7_4 :
    (after .balancePeriodExpiry period).mudRecord.balance.toInt = -35 ∧
    (after .balancePeriodExpiry period).causes.getLsbD 9 = true := by decide +kernel

/-! ### Depth (section 8.10) -/

theorem test_drilled_advance_of_section_8_10 :
    let s := after (.encoderLineChange false true)
      { drilling with depth := { drilling.depth with count := 1901, d := 153249, dmax := 153249
                                                     advance := 153249, footage := #v[0, 0, 49, 0] } }
    s.depth.count = 1900 ∧ s.depth.d = 153250 ∧ s.depth.dmax = 153250 ∧ s.depth.footage[2] = 50 := by
  decide +kernel
theorem test_resync_of_section_8_10 :
    let t : Depth := { drilling.depth with
      count := 7920, tracking := .resync, d := 153250, dmax := 153250, advance := 153250
      driveRise := some 0 }
    let s : State := { drilling with depth := t, time := ⟨3, 0⟩ }
    let s' := after (.announcementReceived 3 (.handler { handlerA with length := 158048 }))
      { withPeer 4 (entry (presence all .empty none)) { s with peers := State.reset.peers } with
        node := { s.node with node := some ⟨5, all, 0⟩ } }
    s'.depth.tracking = .tracking ∧ s'.depth.d = 153288 ∧ s'.depth.advance = 153288 ∧
      s'.depth.dmax = 153250 := by decide +kernel
theorem test_drive_drop_freezes :
    (after (.headDriveChange false) drilling).depth.tracking = .frozen := by decide +kernel
theorem test_home_edge_sets_the_count :
    (after (.homeSwitchEdge true) rig).depth.count = 14000 ∧
    (after (.homeSwitchEdge true) rig).depth.tracking = .frozen := by decide +kernel
theorem test_both_lines_at_once_are_a_fault :
    (after (.encoderLineChange true true) drilling).depth.tracking = .unhomed ∧
    (after (.encoderLineChange true true) drilling).causes.getLsbD 12 = true := by decide +kernel
theorem test_rotation_and_its_wait :
    (after .rotationPulse rig).log.current.revolutions = 1 ∧
    (after .rotationWaitExpiry { drilling with time := ⟨10, 0⟩ }).depth.rotation = none ∧
    (after .rotationWaitExpiry drilling).depth.rotation = some 0 := by decide +kernel
theorem test_rop_of_one_sample :
    (after .ropSampleExpiry { drilling with depth := { drilling.depth with
      onBottom := true, prevDmax := 153190 } }).depth.rop = 300 := by decide +kernel

/-! ### Strata log (section 9.7) -/

def record (n top : Nat) : StrataRecord :=
  let body : StrataBody :=
    { jobNumber := 57, top := top, bottom := top + 1000, lithology := .shale, band := .medium
      openTime := none, closeTime := none, bottomSeconds := 0, revolutions := 0, meanRop := 0
      mudGain := 0, mudLoss := 0, flags := .none, remarks := [] }
  ⟨n, body, recordCrc n body⟩

/-- Interval 1399 of section 9.7 at 121,000 mm, with two of its records before it. -/
def logging : State :=
  { drilling with
    depth := { drilling.depth with dmax := 121000 }
    log := { drilling.log with
      store := [record 1397 118000, record 1398 119000], cursor := 1200
      current := { drilling.log.current with
        sequence := 1399, top := 120000, gridBase := 120000, lithology := .shale, jobNumber := 57
        bottomSeconds := 1600, baseline := some ⟨12270, 40000, 1⟩ } } }

theorem test_record_1399_of_section_9_7 :
    let r := (logging.logRise 120999 121000).log.store.getLast?
    r.map (·.sequence) = some 1399 ∧ r.map (·.body.meanRop) = some 38 ∧
    r.map (·.body.mudGain) = some 0 ∧ r.map (·.body.mudLoss) = some 12500 ∧
    r.map (·.body.flags.mudGap) = some false := by decide +kernel
theorem test_class_change_closes :
    reply (.setLithology 12) logging = (.ok, [1]) ∧
    (after (.setLithology 12) logging).log.current.sequence = 1400 := by decide +kernel
theorem test_class_change_on_a_latched_store_splits :
    reply (.setLithology 12) { logging with log := { logging.log with latch := true } } = (.ok, [2]) := by
  decide +kernel
theorem test_new_hole : reply .newHole rig = (.ok, []) ∧ (after .newHole logging).depth.dmax = 0 := by
  decide +kernel
theorem test_remark_and_water :
    reply (.addRemark 7) rig = (.ok, [1]) ∧ (after .markWater rig).log.current.flags.water := by
  decide +kernel
theorem test_records_are_trimmed :
    reply (.trim 1) logging = (.ok, [0, 1]) ∧ (after (.trim 1) logging).log.cursor = 1398 := by
  decide +kernel
theorem test_record_is_fetched :
    (reply (.fetchRecord 0 0) logging).2.length = 51 ∧ reply .readCursor logging = (.ok, be 4 1200) ∧
    (after (.fetchRecord 0 0) logging).log.cursor = 1398 := by decide +kernel
theorem test_scan_ends_clean :
    let s := after .verifyScanStep (after .verify logging)
    reply .verify logging = (.ok, [0, 2]) ∧ s.log.scan.state = .inFlight ∧
    (after .verifyScanStep s).log.scan.state = .clean := by decide +kernel
/-- A record whose own sequence field is damaged is found at its place, and the scan names it by that number. -/
theorem test_damaged_sequence_field_is_found_faulty :
    let s := { logging with log := { logging.log with
      store := [{ record 1397 118000 with sequence := 7 }, record 1398 119000] } }
    let t := after .verifyScanStep (after .verify s)
    t.log.scan = ⟨.fault, some 1397, some 1398, some 1397⟩ ∧ t.log.latch = true := by decide +kernel
/-- A yield of HEAD abandons a scan in flight and keeps an ended one (R144). -/
theorem test_yield_keeps_an_ended_scan :
    let ended := after .verifyScanStep (after .verifyScanStep (after .verify logging))
    (ended.yieldRole .head).log.scan = ⟨.clean, some 1398, some 1398, none⟩ ∧
    ((after .verify logging).yieldRole .head).log.scan = ⟨.none, none, none, none⟩ := by decide +kernel
theorem test_wrong_crc_latches :
    let s := { logging with log := { logging.log with store := [{ record 1397 0 with crc := 0 }] } }
    (after .verifyScanStep (after .verify s)).log.latch = true := by decide +kernel

/-! ### Job metering (sections 10.5, 10.7, 10.10) -/

theorem test_job_is_opened :
    reply (.openJob 57) rig = (.ok, be 2 57 ++ [0]) ∧ reply (.openJob 57) metering = (.badState, []) := by
  decide +kernel
theorem test_job_is_suspended_and_resumed :
    (after .suspendJob metering).meter.job.state = .suspended ∧
    (after .resumeJob (after .suspendJob metering)).meter.job.state = .opened := by decide +kernel
theorem test_job_is_closed_and_summed :
    reply .closeJob metering = (.ok, be 6 0) ∧
    (reply .fetchSummary (after .closeJob metering)).2.length = 187 ∧
    (reply .readMeters metering).2.length = 264 := by decide +kernel
theorem test_adjustment_is_charged :
    reply (.addCharge 150) metering = (.ok, be 6 150000) := by decide +kernel
theorem test_footage_of_section_10_7 :
    let j := (metering.readArrival (.head headA)).meter.job
    j.accumulators[9].mills = 1979250 ∧ j.bandResidues[2] = 100 ∧ j.quantities[9] = 377 ∧
    j.baselines[2] = some 62410377 ∧ j.total.mills = 1979250 := by decide +kernel
theorem test_additives_and_wear_of_section_10_10 :
    let s := metering.meterMud mudA
    s.meter.job.accumulators[11].mills = 500000 ∧
    (s.meterHandler handlerA).meter.job.accumulators[15].mills = 0 ∧
    (s.meterHandler handlerA).meter.job.baselines[8] = some 413 := by decide +kernel
/-- One second of DRILLING at 14,500 cents per hour by day: 14,500 × 1000 × 256 / 921,600. -/
theorem test_second_of_section_10_5 :
    let s := after .secondStep (withClock 100 615 0 (withJob openJob { drilling with
      peers := put State.reset.peers 3 { entry (presence all .empty none) with
        head := .stored { headA with onBottom := true } } }))
    s.meter.activity = .drilling ∧ s.meter.job.accumulators[2].mills = 4027 ∧
    s.meter.job.timeResidues[2] = 3712000000 % 921600 := by decide +kernel

/-! ### Start-up, clock and resets -/

def cold : State := State.reset

theorem test_groups_are_taken :
    (after (.configure 0 [3, 15, 0, 3, 0xFF, 0xFF]) cold).node.node = some ⟨3, all, 0x3FFFF#32⟩ ∧
    reply (.configure 0 [8, 15, 0, 0, 0, 0]) cold = (.badValue, [2]) := by decide +kernel
theorem test_head_group_is_taken :
    (after (.configure 3 (be 4 14000 ++ be 2 500 ++ be 2 800 ++ be 2 50 ++ be 2 50 ++ be 2 1000))
      cold).node.head = some headConfig := by decide +kernel
theorem test_start_and_running_entry :
    (after .start (withState .config rig)).node.state = .listen ∧
    (after .listenTimerExpiry (withState .listen rig)).node.state = .running := by decide +kernel
theorem test_clock_is_set_and_counts :
    (after (.setClock 100 1439 59) rig).clock.time = some ⟨100, 1439, 59⟩ ∧
    (after .clockSecond (after (.setClock 100 1439 59) rig)).clock.time = some ⟨101, 0, 0⟩ := by
  decide +kernel
theorem test_time_base_step_reaches_the_next_tenth :
    (after .timeBaseStep rig).time = ⟨1, 0⟩ ∧ (after .timeBaseStep rig).peers[3].head.age = 10 := by
  decide +kernel
theorem test_resets_count_the_epoch :
    (after .reset rig).node.epoch = 1 ∧ (after (.powerOnReset true) rig).node.epoch = 1 ∧
    (after (.powerOnReset false) rig).node.epoch = 0 ∧ (after .reset rig).port.status = .noRequest := by
  decide +kernel

/-! ### Witnesses: every case of the statements is met -/

/-- A second station's announcement and presence, lower than this node's own. -/
def rival : State := withPeer 1 (entry (presence all .empty none)) rig

def yieldedRig : State := { rig with node := { rig.node with yielded := all } }
def lineless : State := withLine .busy none rig
def configuring : State := withState .config rig
def listening : State := withState .listen rig
def recovering : State := withSeq .recover .makeup .joint 15 handling
def locked : State := withCirc .locked .off .off rig

theorem test_witness_EmptyQueueLetsABitTimePass :
    rig.pending = [] ∧ rig.time.sub < 12500 ∧ (rig.time.sub + 1) % 1250 ≠ 0 ∧
    (let s := { rig with time := ⟨0, 12499⟩ }
     s.pending = [] ∧ s.time.sub < 12500 ∧ (s.time.sub + 1) % 1250 = 0) ∧
    (let s := { rig with time := ⟨0, 12500⟩ }
     s.pending = [] ∧ 12500 ≤ s.time.sub ∧ s.dueEvents = [.timeBaseStep]) ∧
    (withAge 3 .presence .fresh 150 rig).dueEvents = [.slotStale 3 .presence] ∧
    (withAge 3 .presence .stale 1000 rig).dueEvents = [.slotLost 3 .presence] ∧
    (withEntry 2 ⟨drillerCode, .active, 1000⟩ rig).dueEvents = [.holdSilenceExpiry 2] ∧
    ({ rig with timers := { rig.timers with send := some 0 } }).dueEvents = [.sendPeriodExpiry] ∧
    ({ drilling with time := ⟨10, 0⟩ }).dueEvents = [.rotationWaitExpiry] ∧
    (after .sendPeriodExpiry rig).dueEvents = [.frameBegin] := by decide +kernel

theorem test_witness_RoleRequestsAreChecked :
    requestRole .makeup = some .handler ∧ cold.holdsRole .handler = false ∧
    yieldedRig.holdsRole .handler = true ∧ yieldedRig.yields .handler = true ∧
    configuring.active .handler = true ∧ servedAlways .makeup = false ∧
    configuring.node.state ≠ .running := by decide +kernel

theorem test_witness_RequestDecodeFollowsItsTable :
    bodyLengths 0x99 = none ∧ bodyLengths 0x23 = some (1, 1) ∧ bodyLengths 0x0B = some (1, 66) ∧
    ([] : List Byte).length < (1#8).toNat ∧
    (66 < (67#8).toNat ∧ (67#8).toNat ≤ (List.replicate 67 0#8).length) ∧
    ((0#8).toNat < 1 ∧ (0#8).toNat ≤ ([] : List Byte).length) ∧
    (1 < (2#8).toNat ∧ (2#8).toNat ≤ [0#8, 0#8].length) ∧
    ((66#8).toNat ≤ (List.replicate 66 0#8).length ∧ (66#8).toNat ≤ 66 ∧ 1 ≤ (66#8).toNat) := by
  decide +kernel

/-- Fields are read in the order of their rule, high byte first (section 11.4, R170). -/
theorem test_request_fields_are_read :
    requestOf 0x20 [7, 0x07, 0xEF, 0, 0x0B, 0xE8, 0, 48] = some (.registerRod 7 2031 0 3048 48) ∧
    requestOf 0x0D [0, 100, 4, 0xB0, 59] = some (.setClock 100 1200 59) ∧
    requestOf 0x55 [2, 0, 0, 5, 0x75] = some (.fetchRecord 2 1397) ∧
    requestOf 0x08 [3, 0, 12] = some (.sendDirective 3 0 [12]) ∧
    requestOf 0x66 [0, 0x0F, 0x42, 0x40] = some (.addCharge 1000000) := by decide +kernel

/-- Section 11.4 has 51 command codes; a code has a body length exactly if it has a request. -/
theorem test_command_codes_are_those_of_the_tables :
    (List.range 256).countP (fun code => (bodyLengths code).isSome) = 51 ∧
    (List.range 256).all (fun code => (bodyLengths code).isSome == (requestOf code [0, 0]).isSome) := by
  decide +kernel

theorem test_witness_ResponsesAreFilledAndRead :
    (after .hold rig).port.status = .ok ∧ rig.port.status = .noRequest ∧ Instr.hold ∉ rig.port.taken ∧
    (let p := (after (.requestDecode [5, 0]) rig).port
     p.taken = [.hold] ∧ p.status = .pending ∧ p.taken.erase .hold = []) ∧
    (let p := (after (.requestDecode [1, 0]) (after (.requestDecode [5, 0]) rig)).port
     p.taken = [.hold] ++ [.status] ∧ Instr.status ∉ [Instr.hold] ∧ p.status = .pending ∧
      .hold ∈ p.taken.dropLast ∧
      (p.finish .hold ⟨.ok, [1]⟩).status = .pending ∧ (p.finish .status ⟨.ok, [1]⟩).status = .ok) ∧
    (let p := (after (.requestDecode [0x99, 0]) (after (.requestDecode [5, 0]) rig)).port
     .hold ∈ p.taken ∧ p.status ≠ .pending) := by decide +kernel

theorem test_witness_AttentionCausesAreReadAndCleared :
    (∃ i, 18 ≤ i ∧ (0x40000#32).getLsbD i = true) ∧
    (∀ i, 18 ≤ i → (0x3FFFF#32).getLsbD i = false) := by
  refine ⟨⟨18, by decide, by decide⟩, fun i h => ?_⟩
  rcases Nat.lt_or_ge i 32 with lt | ge
  · exact (by decide : ∀ i < 32, 18 ≤ i → (0x3FFFF#32).getLsbD i = false) i lt h
  · exact BitVec.getLsbD_of_ge _ _ ge

theorem test_witness_LinesFollowTheCauses :
    rig.node.node = some ⟨3, all, 0x3FFFF#32⟩ ∧ cold.node.node = none ∧
    rig.attentionLine = true ∧ (after (.clearAttention 0x10000) rig).attentionLine = false ∧
    rig.alarm = false ∧ (after .hold rig).alarm = true := by decide +kernel

theorem test_witness_ReadOutsChangeOnlyTheAnswer :
    (7#8).toNat = (7 : Station).val ∧ 8 ≤ (8#8).toNat ∧ configuring.active .handler = true ∧
    configuring.active .head = true ∧ configuring.active .cab = true ∧
    cold.node.mud = none ∧ rig.node.mud = some mudConfig ∧ mudConfig.suctionPit = (0 : Fin 4).val + 1 ∧
    cold.node.head = none ∧ rig.node.head = some headConfig ∧ cold.log.store = [] ∧ logging.log.store ≠ [] ∧
    Freshness.lost ≠ .unheard := by decide +kernel

/-- What an own entry, another station's entry and no entry put into the HOLD part, and a held role without its
group into its parts (log 49). -/
theorem test_status_bodies_shown :
    (withEntry 1 ⟨2#8, .orphaned, 0⟩ (withReason .driller rig)).entriesShown =
      [(1, 2#8, .orphaned), (3, drillerCode, .active)] ∧
    rig.entriesShown = [] ∧ rig.holdPart = [0#8, 0#8, 0#8] ∧
    cold.activeRecords = [] ∧ cold.totalVolume = 0 ∧ cold.log.current.nextBoundary cold.intervalLength 5000 = 0 ∧
    pendingMask [none, some 7, none] = 5 := by decide +kernel

theorem test_witness_LocalReasonsChange :
    (withReason .driller rig).holds.reasons.has .driller = true ∧
    rig.holds.reasons.has .driller = false ∧
    (let s := withPlan ⟨.makeup, 1, false, false, none⟩ rig
     s.acts .handler = true ∧ 0 < s.seq.plan.remaining ∧ s.seq.plan.faultPause = false) ∧
    ¬ (rig.acts .handler = true ∧ 0 < rig.seq.plan.remaining ∧ rig.seq.plan.faultPause = false) := by
  decide +kernel

theorem test_witness_HoldRequestsChangeTheSet :
    rig.node.state = .running ∧ configuring.node.state ≠ .running ∧
    ((0#8).toNat = codeOf holdReasonTable .driller ∧
      (withReason .driller rig).holds.reasons.has .driller = true) ∧
    ((3#8).toNat = codeOf holdReasonTable .recovery ∧ rig.holds.reasons.has .recovery = false) ∧
    ((withReason .recovery yieldedRig).holds.reasons.has .recovery = true ∧
      yieldedRig.active .handler = false) ∧
    ((withReason .recovery rig).holds.reasons.has .recovery = true ∧ rig.active .handler = true) ∧
    4 ≤ (4#8).toNat ∧ (7#8).toNat = (7 : Station).val ∧ 8 ≤ (8#8).toNat ∧ rig.holds.others[7] = none ∧
    (withEntry 7 ⟨drillerCode, .orphaned, 1000⟩ rig).holds.others[7] = some ⟨drillerCode, .orphaned, 1000⟩ ∧
    (withEntry 7 ⟨drillerCode, .active, 0⟩ rig).holds.others[7] = some ⟨drillerCode, .active, 0⟩ := by
  decide +kernel

theorem test_witness_HoldFramesChangeTheEntry :
    (rig.link.receiving = true ∧ rig.station ≠ some 2) ∧ lineless.link.receiving = false ∧
    (let s := withEntry 2 ⟨drillerCode, .active, 1000⟩ rig
     s.holds.others[2] = some ⟨drillerCode, .active, 1000⟩ ∧ s.peers[2].presence.freshness.heard = false) ∧
    (withEntry 2 ⟨drillerCode, .active, 999⟩ rig).holds.others[2] = some ⟨drillerCode, .active, 999⟩ ∧
    (let s := withPeer 2 (present (presence all .empty none)) (withEntry 2 ⟨drillerCode, .active, 1000⟩ rig)
     s.holds.others[2] = some ⟨drillerCode, .active, 1000⟩ ∧ s.peers[2].presence.freshness.heard = true) ∧
    rig.holds.others[2] = none := by decide +kernel

theorem test_witness_RoleOwnerMap :
    rival.owner .mud = some 1 ∧ rig.owner .mud = some 3 ∧ cold.owner .mud = none ∧
    exec (.slotStale 1 .presence) rival = .next (after (.slotStale 1 .presence) rival) ∧
    exec .reset rival = .next (after .reset rival) := ⟨by decide +kernel, by decide +kernel, by decide +kernel, rfl, rfl⟩

theorem test_witness_TableAndYields :
    ownerIn rig.peers .mud = rig.owner .mud ∧ ownerIn rival.peers .mud ≠ rig.owner .mud ∧
    yieldedRig.active .mud = false ∧ rig.active .mud = true ∧ rig.active .head = true ∧
    rig.active .cab = true ∧ rig.active .handler = true ∧ rig.seq.marker = none ∧
    listening.active .handler = true ∧ listening.node.state ≠ .running ∧
    recovering.node.state = .running ∧ recovering.active .handler = true ∧
    recovering.seq.marker = some ⟨.makeup, .joint, .recover, 15, none⟩ := by decide +kernel

theorem test_witness_ReceivedFramesAreStored :
    rig.link.receiving = true ∧ rig.station ≠ some 1 ∧ lineless.link.receiving = false := by decide +kernel

theorem test_witness_OwnerArrivalsReachTheirReaders :
    rig.acts .head = true ∧ rig.node.head = some headConfig ∧ cold.acts .head = false := by decide +kernel

theorem test_witness_SlotsGoStaleAndLost :
    (let s := withAge 1 .presence .fresh 150 rival
     s.peers[1].freshness .presence = .fresh ∧ 150 ≤ s.peers[1].age .presence ∧
      (after (.slotStale 1 .presence) s).peers[1].freshness .presence = .stale) ∧
    (rival.peers[1].age .presence < 150 ∧ rig.peers[2].freshness .presence ≠ .fresh) ∧
    (let s := withAge 1 .presence .stale 1000 rival
     s.peers[1].freshness .presence = .stale ∧ 1000 ≤ s.peers[1].age .presence ∧ s.station ≠ some 1 ∧
      s.holds.others[1] = none ∧
      (withEntry 1 ⟨drillerCode, .active, 0⟩ s).holds.others[1] = some ⟨drillerCode, .active, 0⟩ ∧
      (after (.slotLost 1 .presence) s).peers[1].freshness .presence = .lost) ∧
    (SlotName.announce .mud) ≠ .presence ∧
    (withAge 3 .presence .stale 1000 rig).station = some 3 ∧
    (withAge 1 .presence .stale 999 rival).peers[1].age .presence < 1000 := by decide +kernel

theorem test_witness_LinkRequestsAreTaken :
    configuring.node.state ≠ .running ∧ rig.node.state = .running ∧ 4 ≤ (4#8).toNat ∧
    ((3#8).toNat < 4 ∧ (3#8 : Byte) ≠ 0 ∧ (3#8 : Byte) ≠ 1 ∧ (3#8 : Byte) ≠ 2) ∧
    rig.link.queue.length < 8 ∧
    8 ≤ { rig.link with queue := List.replicate 8 ⟨0, 3, [1]⟩ }.queue.length ∧
    rig.link.mute = none ∧ { rig.link with mute := some MuteCause.clash }.mute ≠ none := by
  decide +kernel

theorem test_witness_LineStateAndPeriodChange :
    (∀ line : LineState, (withLine line none rig).link.line = line) ∧ configuring.node.state = .config ∧
    listening.node.state = .listen ∧ rig.node.state = .running :=
  ⟨fun _ => rfl, rfl, rfl, rfl⟩

theorem test_witness_FrameBeginChoosesInOrder :
    (rig.link.line = .idle ∧ rig.link.mute = none ∧ rig.station ≠ none) ∧ lineless.link.line ≠ .idle ∧
    configuring.link.line = .idle ∧ configuring.node.state = .config ∧ listening.node.state = .listen ∧
    (let s := after .hold rig
     s.link.holdFrame = some .set ∧ s.holds.reasons.first = some .driller ∧ s.link.line = .idle) ∧
    (after (.releaseHold 0) (withReason .driller rig)).link.holdFrame = some .release ∧
    (let s := after (.sendDirective 0 3 [1]) rig
     s.link.holdFrame = none ∧ s.link.queue = [⟨0, 3, [1]⟩]) ∧
    (rig.link.holdFrame = none ∧ rig.link.queue = [] ∧ rig.link.due = ⟨false, false, false, false, false⟩) ∧
    (after .sendPeriodExpiry rig).link.due = ⟨true, true, true, true, true⟩ := by decide +kernel

theorem test_witness_TransmissionsEnd :
    (let s := withLine .owner (some .holdRelease) rig
     s.link.line = .owner ∧ s.link.sending = some .holdRelease) ∧ rig.link.line ≠ .owner ∧
    ∀ f ∈ [Frame.holdRelease, .holdSet drillerCode, .directive ⟨0, 3, [1]⟩,
        .presence (presence all .empty none), .announce (.mud mudA)],
      (withLine .owner (some f) rig).link.line = .owner ∧
      (withLine .owner (some f) rig).link.sending = some f ∧
      (withLine .owner (some f) rig).station = some 3 := by decide +kernel

theorem test_witness_DirectivesAreRouted :
    rig.link.receiving = true ∧ rig.station ≠ some 2 ∧ lineless.link.receiving = false ∧
    3 ≤ (3#8).toNat ∧ (2#8).toNat = codeOf roleTable .head ∧ rig.station ≠ none ∧
    rig.owner .head = rig.station ∧ rival.owner .head ≠ rival.station ∧
    (let s := { rig with node := { rig.node with node := some ⟨3, .empty, 0⟩ } }
     s.owner .head = s.station ∧ s.holdsRole .head = false) ∧
    (yieldedRig.owner .head = yieldedRig.station ∧ yieldedRig.holdsRole .head = true ∧
      yieldedRig.yields .head = true) ∧
    (configuring.owner .head = configuring.station ∧ configuring.active .head = true ∧
      configuring.node.state ≠ .running) ∧ rig.acts .head = true := by decide +kernel

theorem test_witness_ReceiveErrorsAndClashes :
    rig.link.receiving = true ∧ rig.station = some 3 ∧ lineless.link.receiving = false := by
  decide +kernel

theorem test_witness_ConfigureTakesAGroup :
    rig.node.state ≠ .config ∧ cold.node.state = .config ∧ 5 ≤ (5#8).toNat ∧
    ([6, 38, 4, 14] : List Nat)[(3#8).toNat]? = some 14 ∧ ([] : List Byte).length ≠ 14 ∧
    8 ≤ (8#8).toNat ∧ ((7#8).toNat < 8 ∧ (7#8).toNat = (7 : Station).val) ∧
    (0#8 = 0#8 ∧ 16 ≤ (16#8).toNat) ∧ (0 < (15#8).toNat ∧ (15#8).toNat < 16) ∧
    2 ^ 18 ≤ (0#8 ++ 4#8 ++ 0#8 ++ 0#8 : BitVec 32).toNat ∧
    (0#8 ++ 3#8 ++ 255#8 ++ 255#8 : BitVec 32).toNat < 2 ^ 18 ∧
    (([] : List Byte).length < 33 ∧ 8 < numAt (List.replicate 33 9#8) 32 1 ∧
      (List.replicate 33 1#8).length ≠ 33 + 4 * numAt (List.replicate 33 1#8) 32 1) ∧
    cabConfig.windows.length ≤ 8 := by decide +kernel

/-- The bytes of the MUD group `mudConfig`, and of the CAB group `cabConfig`. -/
def mudBytes : List Byte :=
  be 1 2 ++ be 2 45000 ++ be 2 30000 ++ be 2 0 ++ be 2 0 ++ be 2 10 ++ be 2 1500 ++ be 4 18000 ++
  be 2 500 ++ be 2 30 ++ be 2 30 ++ be 2 15000 ++ be 2 1000 ++ be 1 95 ++ be 1 90 ++ be 2 2 ++
  be 2 300 ++ be 1 1 ++ be 2 200 ++ be 2 100

def cabBytes : List Byte :=
  be 2 0 ++ be 2 0 ++ be 2 14500 ++ be 2 0 ++ be 2 0 ++ be 2 0 ++ be 2 0 ++ be 2 0 ++ be 2 0 ++
  be 2 4200 ++ be 2 0 ++ be 2 250 ++ be 2 0 ++ be 2 0 ++ be 2 0 ++ be 2 40 ++ be 1 2 ++
  be 2 360 ++ be 2 256 ++ be 2 1080 ++ be 2 320

/-- Every group stored, and refused with its first field out of range. -/
theorem test_every_group_is_taken_or_refused :
    (after (.configure 1 mudBytes) cold).node.mud = some mudConfig ∧
    reply (.configure 1 (5#8 :: mudBytes.drop 1)) cold = (.badValue, [2]) ∧
    reply (.configure 1 (mudBytes.take 36 ++ be 2 200)) cold = (.badValue, [21]) ∧
    (after (.configure 2 (be 2 50 ++ be 2 60)) cold).node.handler = some ⟨50, 60⟩ ∧
    reply (.configure 2 (be 2 50 ++ be 2 9)) cold = (.badValue, [3]) ∧
    reply (.configure 3 (be 4 14000 ++ be 2 500 ++ be 2 800 ++ be 2 50 ++ be 2 50 ++ be 2 499)) cold =
      (.badValue, [7]) ∧
    (after (.configure 4 cabBytes) cold).node.cab = some cabConfig ∧
    reply (.configure 4 (cabBytes.take 37 ++ be 2 360 ++ be 2 320)) cold = (.badValue, [21]) := by
  decide +kernel

theorem test_witness_StartEntersListen :
    cold.node.node = none ∧
    (configuring.node.state = .config ∧ configuring.node.node ≠ none ∧ configuring.node.mud ≠ none ∧
      configuring.node.handler ≠ none ∧ configuring.node.head ≠ none ∧ configuring.node.cab ≠ none ∧
      configuring.station = some 3) ∧
    (configuring.holdsRole .head = true ∧ configuring.log.store = []) ∧
    (withState .config rival).peers[1].claims .head = true ∧
    ({ configuring with node := { configuring.node with
      node := some ⟨3, ⟨true, false, false, false⟩, 0⟩ } }).holdsRole .head = false ∧
    (withState .config logging).log.store.head? = some (record 1397 118000) ∧
    (withState .config logging).log.store.getLast? = some (record 1398 119000) := by decide +kernel

theorem test_witness_RunningEntryStartsTheBlocks :
    rig.node.state ≠ .listen ∧ listening.node.state = .listen ∧ listening.seq.marker = none ∧
    (withState .listen recovering).holdsRole .handler = true ∧
    (withState .listen recovering).seq.marker = some ⟨.makeup, .joint, .recover, 15, none⟩ ∧
    listening.active .head = true ∧ listening.node.head = some headConfig ∧
    listening.pins.home = false ∧ listening.depth.tracking = .unhomed ∧
    (withState .listen yieldedRig).active .head = false ∧
    (let s := { listening with pins := { rig.pins with home := true, headDrive := true } }
     s.pins.home = true ∧ s.pins.headDrive = true) ∧
    (let s := { listening with pins := { rig.pins with pump2Run := true } }
     s.active .mud = true ∧ s.pins.pumpRun .two = true) ∧
    listening.active .cab = true ∧ listening.node.cab = some cabConfig := by decide +kernel

theorem test_witness_ClockAndTimeBaseAdvance :
    (65535#16).toNat = 65535 ∧ (65534#16).toNat ≤ 65534 ∧ 1440 ≤ (1440#16).toNat ∧
    (1439#16).toNat ≤ 1439 ∧ 60 ≤ (60#8).toNat ∧ (59#8).toNat ≤ 59 ∧ rig.clock.time = none ∧
    (withClock 65534 1439 59 rig).clock.time = some ⟨65534, 1439, 59⟩ ∧
    (withClock 65534 1439 58 rig).clock.time = some ⟨65534, 1439, 58⟩ := by decide +kernel

theorem test_witness_ResetsClearAndKeep :
    rig.node.marker = true ∧ ({ rig.node with marker := false } : Node).marker = false := by
  decide +kernel

theorem test_witness_RodRecordsComeAndGo :
    handling.acts .handler = true ∧ recovering.seq.state ≠ .idle ∧
    (handling.seq.state = .idle ∧ ¬ 0 < handling.seq.plan.remaining) ∧ 60 ≤ (60#8).toNat ∧
    6 ≤ (6#8).toNat ∧ ((1#16 : BitVec 16) ≠ 0 ∧ (5#8).toNat = codeOf rodKindTable .crossover) ∧
    ((99#16).toNat < 100 ∧ 9999 < (10000#16).toNat) ∧
    ¬ ((100#16).toNat < 100 ∨ 9999 < (100#16).toNat) ∧
    ¬ ((9999#16).toNat < 100 ∨ 9999 < (9999#16).toNat) ∧
    (59#8).toNat = (59 : RackSlot).val ∧ handling.inventory.rack[(59 : RackSlot)] = none ∧
    handling.inventory.rack[(15 : RackSlot)] = some (rod 2031 3048 48) ∧
    (2031#16).toNat ∈ handling.inventory.ids ∧ (1#16).toNat ∉ handling.inventory.ids ∧
    handling.inventory.string.length < 160 ∧
    160 ≤ ({ handling.inventory with string := List.replicate 160 (rod 1 100 0) }).string.length := by
  decide +kernel

theorem test_witness_CarouselAndTallyAreSet :
    (handling.acts .handler = true ∧ handling.seq.state = .idle ∧ handling.inventory.string ≠ []) ∧
    (rig.acts .handler = true ∧ rig.inventory.string = []) ∧ cold.acts .handler = false ∧
    0 < (withPlan ⟨.makeup, 1, false, true, none⟩ rig).seq.plan.remaining ∧
    (60 ≤ (60#8).toNat ∧ (59#8).toNat = (59 : RackSlot).val) ∧
    ((-501 : BitVec 16).toInt < -500 ∧ 500 < (501 : BitVec 16).toInt) ∧
    (-500 ≤ (-500 : BitVec 16).toInt ∧ (500 : BitVec 16).toInt ≤ 500) := by decide +kernel

/-- A full rack, and a string of 160 entries. -/
def crowded : State :=
  { rig with inventory := { rig.inventory with
      rack := Vector.replicate 60 (some (rod 5 3000 0)), string := List.replicate 160 (rod 6 3000 0) } }

theorem test_witness_CyclesStart :
    (let v := handling.inventory
     handling.acts .handler = true ∧ handling.held = false ∧ handling.seq.state = .idle ∧
      handling.seq.plan.remaining = 0 ∧ v.rack[(15 : RackSlot)] = some (rod 2031 3048 48) ∧
      (∀ j : RackSlot, j - v.carousel < 15 - v.carousel → v.rack[j] = none) ∧ v.string.length < 160 ∧
      v.string.getLast? = some (rod 2010 3047 0) ∧ v.rack[(14 : RackSlot)] = none ∧
      (∀ j : RackSlot, j - v.carousel < 14 - v.carousel → v.rack[j] ≠ none)) ∧
    recovering.seq.state ≠ .idle ∧ (withReason .driller handling).held = true ∧
    ((∀ j : RackSlot, rig.inventory.rack[j] = none) ∧ rig.inventory.string = []) ∧
    ((∀ j : RackSlot, crowded.inventory.rack[j] ≠ none) ∧ 160 ≤ crowded.inventory.string.length ∧
      crowded.inventory.string ≠ []) ∧
    handling.pins.slipsSet = false ∧ handling.node.handler = some ⟨50, 60⟩ := by decide +kernel

def paused (kind : CycleKind) (s : State) : State := withPlan ⟨kind, 2, false, true, none⟩ s

theorem test_witness_TripsStartAndResume :
    (handling.acts .handler = true ∧ handling.held = false ∧ handling.seq.state = .idle ∧
      handling.seq.plan.remaining = 0) ∧
    (withReason .driller handling).held = true ∧ recovering.seq.state ≠ .idle ∧
    ((0#8).toNat = 0 ∧ 160 < (161#8).toNat ∧ 0 < (1#8).toNat ∧ (160#8).toNat ≤ 160) ∧
    (rig.inventory.serviceableCount = 0 ∧ rig.inventory.string = []) ∧
    (0 < crowded.inventory.serviceableCount ∧ 160 ≤ crowded.inventory.string.length ∧
      crowded.inventory.string ≠ [] ∧ crowded.inventory.emptyCount = 0) ∧
    0 < min (1#8).toNat
      (min handling.inventory.serviceableCount (160 - handling.inventory.string.length)) ∧
    0 < min (1#8).toNat (min handling.inventory.emptyCount handling.inventory.string.length) ∧
    handling.seq.plan.holdPause = false ∧ (paused .makeup handling).seq.plan.holdPause = true ∧
    (paused .makeup recovering).seq.state ≠ .idle ∧ (paused .breakout handling).seq.plan.kind = .breakout ∧
    (0 < handling.inventory.serviceableCount ∧ handling.inventory.string.length < 160 ∧
      handling.inventory.string ≠ [] ∧ 0 < handling.inventory.emptyCount) := by decide +kernel

theorem test_witness_StopTripEndsThePlan :
    (configuring.active .handler = true ∧ configuring.node.state ≠ .running) ∧
    (rig.acts .handler = true ∧ rig.owner .handler = rig.station) ∧
    (rig.seq.plan.remaining = 0 ∧ rig.seq.plan.faultPause = false ∧ rig.seq.plan.holdPause = false) := by
  decide +kernel

theorem test_witness_FaultedCyclesGoOnOrEnd :
    (∀ state ∈ [SeqState.active, .faulted, .transitHeld, .recover],
      let s := withSeq state .makeup .load 15 handling
      s.acts .handler = true ∧ s.seq.step = some .load ∧ s.seq.slot = some 15 ∧ s.seq.state = state ∧
        s.inventory.transit = none) ∧
    (withTransit (rod 7 3000 0) (withSeq .active .makeup .joint 15 handling)).inventory.transit ≠ none ∧
    (withTransit (rod 7 3000 0) (withSeq .faulted .makeup .joint 15 handling)).inventory.transit ≠ none ∧
    (rig.seq.state = .idle ∧ rig.acts .handler = true) ∧
    (let s := withSeq .active .makeup .load 15 handling
     s.stepTimerRuns = true ∧ 1 < s.seq.timer ∧ ({ s.seq with timer := 1 } : Sequencer).timer ≤ 1) ∧
    (withReason .driller (withSeq .active .makeup .load 15 handling)).stepTimerRuns = false := by
  decide +kernel

theorem test_witness_TransitAndRecoveryAreResolved :
    (rig.acts .handler = true ∧ rig.seq.state ≠ .transitHeld ∧ rig.seq.state ≠ .recover) ∧
    (let s := withTransit (rod 7 3000 0) (withSeq .transitHeld .makeup .joint 15 handling)
     s.acts .handler = true ∧ s.seq.state = .transitHeld ∧ s.inventory.transit = some (rod 7 3000 0) ∧
      s.inventory.rack[(15 : RackSlot)] ≠ none ∧ s.inventory.rack[(59 : RackSlot)] = none ∧
      s.inventory.string.length < 160) ∧
    160 ≤ (withTransit (rod 7 3000 0) (withSeq .transitHeld .makeup .joint 15 crowded)).inventory.string.length ∧
    (2 ≤ (2#8).toNat ∧ 60 ≤ (60#8).toNat ∧ (59#8).toNat = (59 : RackSlot).val) ∧
    (recovering.seq.state = .recover ∧ recovering.inventory.transit = none) ∧
    (withTransit (rod 7 3000 0) recovering).inventory.transit ≠ none := by decide +kernel

theorem test_witness_StepsEndOnTheirConditions :
    rig.acts .handler = true ∧ rig.seq.state ≠ .active ∧
    (let s := { withSeq .active .makeup .load 15 handling with
        pins := { rig.pins with rodInLoader := true } }
     s.acts .handler = true ∧ s.seq.state = .active ∧ s.stepCondition = true ∧ s.seq.slot = some 15 ∧
      s.inventory.rack[(15 : RackSlot)] = some (rod 2031 3048 48) ∧ s.inventory.transit = none ∧
      s.seq.step = some .load ∧ s.seq.kind = .makeup) ∧
    (withSeq .active .makeup .load 15 handling).stepCondition = false ∧
    (let s := withTransit (rod 7 3000 0) (withSeq .active .breakout .store 17 handling)
     s.inventory.transit = some (rod 7 3000 0) ∧ s.inventory.string.length < 160 ∧
      s.inventory.rack[(17 : RackSlot)] = none ∧ s.seq.kind = .breakout) ∧
    handling.inventory.string = handling.inventory.string.take 2 ++ [rod 2010 3047 0] ∧
    ([] : List Rod) ++ [rod 1 100 0] = [rod 1 100 0] ∧
    (withSeq .active .makeup .load 14 handling).stepMove .load = .error .slotEmpty ∧
    handling.node.handler.map (·.wearLimit) = some handling.wearLimit ∧
    (let s := withSeq .active .makeup .release 14 handling
     s.seq.step = some .release ∧ s.seq.plan.remaining = 0 ∧
      (withPlan ⟨.makeup, 1, false, false, none⟩ s).seq.plan.remaining = 1 ∧
      (let t := withPlan ⟨.makeup, 2, false, false, none⟩ s
       1 < t.seq.plan.remaining ∧ t.seq.plan.holdPause = false ∧ t.held = false)) := by
  refine ⟨by decide +kernel, by decide +kernel, by decide +kernel, by decide +kernel, by decide +kernel,
    by decide +kernel, rfl, rfl, by decide +kernel⟩

/-- The code with which a step's move is refused. -/
def moveRefusal (st : Step) (s : State) : Option Status :=
  match s.stepMove st with
  | .error code => some code
  | .ok _ => none

/-- A move whose precondition fails, alone or with the other one (R58, log 38). -/
theorem test_witness_refused_moves :
    let full (s : State) : State :=
      { s with inventory := { s.inventory with string := List.replicate 160 (rod 1 100 0) } }
    let bare (s : State) : State := { s with inventory := { s.inventory with string := [] } }
    let load (i : RackSlot) := withSeq .active .makeup .load i handling
    let held := withTransit (rod 7 3000 0)
    let store := withSeq .active .breakout .store 15 handling
    moveRefusal .load (held (load 15)) = some .transitOccupied ∧
    moveRefusal .load (held (load 14)) = some .slotEmpty ∧
    moveRefusal .joint handling = some .transitEmpty ∧
    moveRefusal .joint (full handling) = some .transitEmpty ∧
    moveRefusal .joint (full (held handling)) = some .stringFull ∧
    moveRefusal .lift (bare handling) = some .stringEmpty ∧
    moveRefusal .lift (bare (held handling)) = some .stringEmpty ∧
    moveRefusal .lift (held handling) = some .transitOccupied ∧
    moveRefusal .store store = some .transitEmpty ∧
    moveRefusal .store (held store) = some .slotOccupied := by decide +kernel

theorem test_witness_PumpRequestsMoveThePump :
    (rig.acts .mud = true ∧ 3#8 ≠ 1#8 ∧ 3#8 ≠ 2#8 ∧ 1#8 = pumpNumber .one ∧ 2#8 = pumpNumber .two) ∧
    (withReason .driller pumping).held = true ∧ locked.circ.state = .locked ∧ locked.held = false ∧
    (let s := { pumping with peers := State.reset.peers }
     s.held = false ∧ s.circ.state ≠ .locked ∧ freshContent s.handlerView = none) ∧
    ((freshContent rig.handlerView).map (·.stringOpen) = some false ∧ rig.suctionVolume = none) ∧
    (pumping.held = false ∧ pumping.circ.state ≠ .locked ∧ pumping.suctionVolume = some 301 ∧
      200 ≤ 301 ∧ (freshContent pumping.handlerView).map (·.stringOpen) = some false ∧
      (pumping.circ.pump .one).state = .off ∧ pumping.pins.pumpRun .one = false) ∧
    ({ pumping with pins := { rig.pins with pump1Run := true } }).pins.pumpRun .one = true ∧
    (∀ st : PumpState, ((withCirc .priming st .off rig).circ.pump .one).state = st) ∧
    ({ pumping with pending := [.hold, .pumpRunningChange .one true] } : State).pending =
      [.hold] ++ .pumpRunningChange .one true :: [] ∧ .timeBaseStep ∉ [Instr.hold] ∧
    (pumping.pending = [] ∧ pumping.pins.pumpRun .one = false) := by
  refine ⟨by decide +kernel, by decide +kernel, by decide +kernel, by decide +kernel, by decide +kernel,
    by decide +kernel, by decide +kernel, by decide +kernel, fun _ => rfl, rfl, by decide, by decide +kernel⟩

theorem test_witness_PumpEventsMoveThePump :
    (rig.acts .mud = true ∧ cold.acts .mud = false ∧ true ≠ rig.pins.pumpRun .one ∧
      false = rig.pins.pumpRun .one) ∧
    false ≠ ({ rig with pins := { rig.pins with pump1Run := true } }).pins.pumpRun .one ∧
    (∀ st : PumpState, ((withCirc .priming st .off rig).circ.pump .one).state = st) ∧
    ((withCirc .priming .starting .off rig).circ.pump .one).timer ≤ 1 ∧
    1 < ((after (.startPump 1) pumping).circ.pump .one).timer ∧
    (∀ c : CircState, (withCirc c .off .off rig).circ.state = c) ∧
    ({ (withCirc .bleeding .off .off rig).circ with bled := 2 }).bled = 2 := by
  refine ⟨by decide +kernel, by decide +kernel, fun _ => rfl, by decide +kernel, by decide +kernel,
    fun _ => rfl, rfl⟩

theorem test_witness_CirculationRequestsAreTaken :
    (rig.acts .mud = true ∧ rig.circ.state ≠ .locked ∧ rig.circ.state ≠ .bleeding) ∧
    (locked.acts .mud = true ∧ locked.circ.state = .locked ∧ locked.owner .handler = some 3 ∧
      locked.peers[3].handler.freshness = .fresh) ∧
    ({ locked with peers := State.reset.peers }).owner .handler = none ∧
    (({ rig with peers := State.reset.peers } : State).owner .handler = none ∧
      ({ rig with peers := State.reset.peers } : State).circ.state ≠ .locked) ∧
    ((withCirc .bleeding .off .off rig).circ.state = .bleeding ∧
      (withCirc .bleeding .off .off rig).circ.pump2.state ≠ .stopping) ∧
    (withCirc .bleeding .stopping .off rig).circ.pump1.state = .stopping ∧
    (4 ≤ (4#8).toNat ∧ (3#8).toNat = (3 : Fin 4).val ∧ 999 < (1000#16).toNat ∧ 0 < (1#16).toNat ∧
      (999#16).toNat ≤ 999) := by decide +kernel

theorem test_witness_MudInputsAreCounted :
    (rig.acts .mud = true ∧ cold.acts .mud = false ∧ rig.node.mud = some mudConfig) ∧
    rig.circ.state ≠ .bleeding ∧ (withCirc .bleeding .off .off rig).circ.bled = 0 ∧
    ((300#16).toNat ≤ 40000 ∧ (300#16).toNat ≤ mudConfig.bleedThreshold) ∧
    ¬ ((301#16).toNat ≤ mudConfig.bleedThreshold) ∧
    (let s := after (.pressureSample true 300) (withCirc .bleeding .off .off rig)
     s.circ.state = .bleeding ∧ 1 ≤ s.circ.bled ∧ s.circ.pump1.state ≠ .stopping) ∧
    (let s := after (.pressureSample true 300) (withCirc .bleeding .stopping .off rig)
     1 ≤ s.circ.bled ∧ s.circ.pump1.state = .stopping) ∧
    (mudConfig.pits ≤ (2 : Fin 4).val ∧ (1 : Fin 4).val < mudConfig.pits) ∧
    pumping.suctionLow = false ∧ (after (.pitLevelSample 0 true 22) pumping).suctionLow = true ∧
    (mudConfig.suctionPit = (0 : Fin 4).val + 1 ∧ rig.bal.pits[(0 : Fin 4)].level = none ∧
      pumping.bal.pits[(0 : Fin 4)].level = some 67) := by decide +kernel

theorem test_witness_BalancePeriodsAreComputed :
    (period.node.mud = some mudConfig ∧ period.acts .mud = true ∧ (freshContent period.headView).isSome) ∧
    ({ period with peers := State.reset.peers } : State).headView = none ∧
    ((withState .config period).acts .mud = false) ∧ period.circ.state = .stopped ∧
    ((withCirc .priming .starting .off period).circ.returns < mudConfig.returnsThreshold) ∧
    mudConfig.returnsThreshold ≤ ({ (withCirc .circulating .running .off period).circ with returns := 2 }).returns ∧
    (after .balancePeriodExpiry period).bal.degradedCount < 8 ∧
    8 ≤ ({ period.bal with window := Vector.replicate 15 ⟨0, true⟩ }).degradedCount := by decide +kernel

theorem test_witness_TrackerInputsAreTaken :
    (drilling.acts .head = true ∧ drilling.node.head = some headConfig ∧
      drilling.depth.tracking = .tracking ∧ drilling.pins.encA = false ∧ drilling.pins.encB = false) ∧
    cold.acts .head = false ∧ rig.depth.tracking = .unhomed ∧
    (drilling.depth.jumpHeld = false ∧ ({ drilling.depth with jumpHeld := true } : Depth).jumpHeld = true) ∧
    ((after (.headDriveChange false) drilling).depth.tracking = .frozen ∧
      (after (.headDriveChange false) drilling).depth.count = 2000) ∧
    (let s := after (.headDriveChange true) (after (.headDriveChange false) drilling)
     s.depth.tracking = .resync) ∧
    rig.depth.count - 1 = rig.depth.count := by decide +kernel

theorem test_witness_TrackerReadsArrivals :
    rig.depth.tracking = .unhomed ∧ (after (.headDriveChange false) drilling).depth.tracking = .frozen ∧
    (let s := { after (.headDriveChange true) (after (.headDriveChange false) drilling) with time := ⟨0, 525⟩ }
     s.depth.tracking = .resync ∧ s.depth.driveRise = some 0 ∧ 0 + 525 ≤ s.now ∧
      handlerA.stringOpen = false) ∧
    (let s := { after (.headDriveChange true) (after (.headDriveChange false) drilling) with time := ⟨0, 524⟩ }
     s.depth.tracking = .resync ∧ ¬ 0 + 525 ≤ s.now) ∧
    (drilling.depth.tracking = .tracking ∧ handlerA.length.toNat = drilling.depth.lastL) ∧
    -- H is 1000 mm and K 800 mm: 155,501 mm would take D 501 mm up, 155,500 mm only 500 mm
    (drilling.depth.d + 500 < 155501 - (2000 * 500 / 1000 + 800) ∧
      155500 - (2000 * 500 / 1000 + 800) ≤ drilling.depth.d + 500) ∧
    (((153250 : Int) - drilling.depth.d).natAbs ≤ headConfig.resyncTolerance ∧
      headConfig.resyncTolerance < ((153251 : Int) - drilling.depth.d).natAbs) ∧
    (153200 ≤ drilling.depth.advance ∧ drilling.depth.advance < 153201) := by decide +kernel

theorem test_witness_RotationAndRopAreSampled :
    cold.acts .head = false ∧ rig.acts .head = true ∧ rig.node.head = some headConfig ∧
    rig.depth.filled = 0 ∧ 0 < ({ rig.depth with filled := 1 } : Depth).filled ∧
    (let s := { drilling with time := ⟨10, 0⟩ }
     s.depth.rotation = some 0 ∧ 0 + 125000 ≤ s.now) ∧
    (drilling.depth.rotation = some 0 ∧ drilling.now < 0 + 125000) ∧ rig.depth.rotation = none := by
  decide +kernel

theorem test_witness_LogRequestsAreTaken :
    (logging.acts .head = true ∧ logging.node.head = some headConfig) ∧
    ({ rig with peers := State.reset.peers } : State).handlerView = none ∧
    (freshContent logging.handlerView).map (·.entries) = some 0#8 ∧
    (logging.log.current.lower = none ∧ logging.log.current.top < 121000 ∧
      120000 ≤ logging.log.current.top) ∧
    (logging.log.store.length + 1 ≤ 400 ∧ logging.log.latch = false ∧
      logging.log.current.sequence + 1 ≤ 4294967295) ∧
    ({ logging.log with latch := true } : StrataLog).latch ≠ false ∧
    ({ logging.log.current with lower := some (record 1 0).body } : Interval).lower ≠ none ∧
    (16 ≤ (16#8).toNat ∧ (15#8).toNat = codeOf lithologyTable .quartzite) ∧
    (logging.log.current.top < logging.depth.dmax ∧ drilling.log.current.remarks.length < 4 ∧
      4 ≤ ({ drilling.log.current with remarks := [1, 2, 3, 4] } : Interval).remarks.length) ∧
    (let boundary := 120000 + ((120999 - 120000) / 1000 + 1) * 1000
     120999 < boundary ∧ boundary ≤ 121000 ∧ ¬ boundary ≤ 120999) := by decide +kernel

/-- NEW_HOLE at the log counts the parts it discards, and leaves the count alone where it discards none (R140). -/
theorem test_discards_are_counted :
    (let at_ (discards : Nat) (latch : Bool) (lower : Option StrataBody) (old : Nat) : Nat × Nat :=
      let g := (State.logNewHole old { logging with log := { logging.log with
        discards := discards, latch := latch, current := { logging.log.current with lower := lower } } }).log
      (g.discards, g.store.length - logging.log.store.length)
    let split := some (record 1 0).body
    at_ 300 false none 0 = (300, 0) ∧ at_ 300 false split 0 = (300, 1) ∧ at_ 10 true split 0 = (11, 0) ∧
    at_ 300 false none 120001 = (300, 1) ∧ at_ 10 true none 120001 = (11, 0) ∧
    at_ 254 true split 120001 = (255, 0)) := by decide +kernel

theorem test_witness_ClosesWriteRecords :
    logging.log.current.lower = none ∧ 0 < logging.log.current.bottomSeconds ∧
    rig.log.current.bottomSeconds = 0 ∧ (lastHeard cold.mudView).isNone ∧
    lastHeard logging.mudView = some mudA ∧ logging.log.current.baseline = some ⟨12270, 40000, 1⟩ ∧
    12270 ≤ mudA.gain.toNat ∧ 40000 ≤ mudA.loss.toNat ∧ mudA.gain.toNat < 12271 ∧
    drilling.log.current.baseline = none ∧ lastHeard drilling.mudView = some mudA ∧
    ({ logging.log.current with lower := some (record 1 0).body } : Interval).lower =
      some (record 1 0).body := by decide +kernel

theorem test_witness_StoreRequestsAreTaken :
    (logging.acts .head = true ∧ logging.active .head = true ∧ logging.log.scan.state ≠ .inFlight) ∧
    (after .verify logging).log.scan.state = .inFlight ∧
    (0 < (2#16).toNat ∧ (2#16).toNat ≤ logging.log.store.length ∧
      logging.log.store.length < (3#16).toNat) ∧
    rig.log.store = [] ∧ logging.log.store.head? = some (record 1397 118000) ∧
    logging.log.store.getLast? = some (record 1398 119000) ∧ 3 ≤ (3#8).toNat ∧
    (let g := (after .verify logging).log
     g.scan.position = some 1397 ∧ g.record 1397 = some (record 1397 118000) ∧
      recordCrc 1397 (record 1397 118000).body = (record 1397 118000).crc ∧ g.scan.last ≠ some 1397) ∧
    (let g := (after .verifyScanStep (after .verify logging)).log
     g.scan.position = some 1398 ∧ g.record 1398 = some (record 1398 119000) ∧
      g.scan.last = some 1398) ∧
    recordCrc 1397 (record 1397 118000).body ≠ ({ record 1397 118000 with crc := 0 } : StrataRecord).crc ∧
    logging.log.record 1396 = none ∧ logging.log.record 1399 = none ∧ logging.log.contiguous := by
  decide +kernel

theorem test_witness_JobsOpenAndClose :
    (rig.acts .cab = true ∧ rig.active .cab = true ∧ rig.meter.job.state = .noJob) ∧
    metering.meter.job.state = .opened ∧ (after .suspendJob metering).meter.job.state = .suspended ∧
    ((after .closeJob metering).meter.job.state = .closed ∧
      (after .closeJob metering).meter.job.summaryRead = false) ∧
    (after .fetchSummary (after .closeJob metering)).meter.job.summaryRead = true ∧
    heardContent rig.headView = some headA ∧ heardContent rig.mudView = some mudA ∧
    heardContent rig.handlerView = some handlerA ∧ rig.owner .head = some 3 ∧
    (let s := withPeer 3 (present (presence all .empty none)) rig
     s.owner .head = some 3 ∧ heardContent s.headView = none ∧ heardContent s.mudView = none ∧
      heardContent s.handlerView = none) ∧
    (cold.owner .head = none ∧ cold.owner .mud = none ∧ cold.owner .handler = none) ∧
    (withAge 3 (.announce .head) .lost 1000 rig).owner .head = some 3 := by decide +kernel

theorem test_witness_ChargesAreMade :
    (metering.acts .cab = true ∧ cold.acts .cab = false ∧ metering.node.cab = some cabConfig ∧
      cold.node.cab = none) ∧
    (1000000 < (1000001#32).toNat ∧ 0 < (1#32).toNat ∧ (1000000#32).toNat ≤ 1000000) ∧
    rig.meter.job.state ≠ .opened ∧ metering.meter.job.state = .opened ∧
    (let j := metering.meter.job
     j.accumulators[16].saturated = false ∧ j.accumulators[17].saturated = false ∧
      j.accumulators[16].mills + (2 ^ 47 - 1) ≤ 2 ^ 47 - 1 ∧
      ¬ j.accumulators[16].mills + 2 ^ 47 ≤ 2 ^ 47 - 1) ∧
    metering.clock.time = some ⟨100, 1200, 0⟩ ∧ (withJob openJob rig).clock.time = none ∧
    (after .clockSecond (withClock 100 1199 59 metering)).clock.lastMinute = some (metering.now, 1199) ∧
    metering.clock.lastMinute = none ∧ ({ cabConfig with windows := [] } : CabConfig).windows = [] ∧
    cabConfig.windows = [⟨360, 256⟩] ++ ⟨1080, 320⟩ :: [] ∧
    (1080 ≤ 1080 ∧ (∀ x ∈ cabConfig.windows, 359 < x.start)) ∧
    (let s := after .clockSecond (withClock 100 1199 59 metering)
     s.stepMinute = some 1199 ∧ metering.stepMinute = some 1200 ∧ rig.stepMinute = none) := by decide +kernel

/-- A refused charge marks exactly the accumulators that it would have taken past the limit, leaves every sum as it
was and raises ACCUM_SATURATED; a mark stays (R160). -/
theorem test_refused_charges_mark_their_accumulators :
    let full : Accumulator := ⟨2 ^ 47 - 1, false⟩
    let filled (i : Fin 18) (s : State) : State :=
      withJob { s.meter.job with accumulators := put s.meter.job.accumulators i full } s
    let marks (s : State) : List Bool := s.meter.job.accumulators.toList.map (·.saturated)
    let sums (s : State) : List Nat := s.meter.job.accumulators.toList.map (·.mills)
    let c := Instr.addCharge 1
    let total := filled 17 metering
    let both := filled 16 total
    reply c total = (.accumSaturated, []) ∧ (after c total).raised .accumSaturated = true ∧
    sums (after c total) = sums total ∧
    marks (after c total) = List.replicate 17 false ++ [true] ∧
    marks (after c both) = List.replicate 16 false ++ [true, true] ∧
    marks (after c (filled 16 metering)) = List.replicate 16 false ++ [true, false] ∧
    marks (after c (after c total)) = marks (after c total) := by decide +kernel

/-- Each line of the activity class table is the first that holds somewhere (R154). -/
theorem test_witness_activity_classes :
    (withReason .driller rig).activityClass = .held ∧ cold.activityClass = .down ∧
    (withPeer 3 { entry (presence all .empty none) with head := .stored { headA with onBottom := true } }
      rig).activityClass = .drilling ∧
    (withPeer 3 { entry (presence all .empty none) with handler := .stored { handlerA with remaining := 1 } }
      rig).activityClass = .tripping ∧
    (withPeer 3 { entry (presence all .empty none) with handler := .stored { handlerA with kind := 1 } }
      rig).activityClass = .connecting ∧
    (withPeer 3 { entry (presence all .empty none) with mud := .stored { mudA with circ := 2 } }
      rig).activityClass = .circulating ∧
    rig.activityClass = .standby := by decide +kernel

/-- The window in force is the one last taken, until the next second step (R163). -/
theorem test_window_is_taken_at_the_second_step :
    let set := after (.setClock 100 400 0) metering
    metering.meter.window = none ∧ set.meter.window = none ∧
    (after .secondStep set).meter.window = some (1, 256) := by decide +kernel

theorem test_witness_CountersAreRead :
    (cold.acts .cab = false ∧ metering.acts .cab = true ∧ metering.node.cab = some cabConfig) ∧
    ((withJob openJob rig).clock.time = none ∧ openJob.state = .opened ∧
      openJob.baselines[2] = some 62410000 ∧ openJob.baselines[8] = none) ∧
    (metering.clock.time = some ⟨100, 1200, 0⟩ ∧ 62410000 < headA.footage[2].toNat) ∧
    (headA.footage[2].toNat < 62410378 ∧ metering.meter.job.baselines[2] = some 62410000 ∧
      61000000 < 62410000) ∧
    (after .suspendJob metering).meter.job.state = .suspended ∧ rig.meter.job.state = .noJob := by
  decide +kernel

/-- A footage counter that falls sets FOOTAGE_GAP and is seen; one read while suspended is only seen. -/
theorem test_fallen_footage_sets_its_gap :
    let fallen := (metering.readFootage cabConfig 2 61000000).meter.job
    let seen := ((after .suspendJob metering).readFootage cabConfig 2 62500000).meter.job
    fallen.flags.footageGap = true ∧ fallen.baselines[2] = some 61000000 ∧ fallen.total.mills = 0 ∧
    seen.flags.footageGap = false ∧ seen.baselines[2] = some 62500000 ∧ seen.total.mills = 0 := by
  decide +kernel

/-- For the statements of tier 3 about step. -/
theorem test_witness_invariants :
    (period.bal.residuesKept ∧ period.bal.inRange ∧ metering.meter.job.residuesKept ∧
      handling.inventory.stringKept ∧ rig.link.countsKept ∧ rig.link.owned ∧
      (withLine .owner (some .holdRelease) rig).link.owned) ∧
    (let s := withSeq .active .makeup .load 15 handling
     s.seq.stepKept ∧ s.markerKept ∧ s.stepsTaken ∧
      step { s with pending := [.abort] } = .next (after .abort s)) ∧
    period.bal.sumKept ∧ period.circ.lockSafe ∧ metering.meter.job.totalKept ∧ logging.log.contiguous ∧
    handling.inventory.idsUnique ∧
    step { period with pending := [.balancePeriodExpiry] } =
      .next (after .balancePeriodExpiry period) ∧
    step { metering with pending := [.addCharge 150] } = .next (after (.addCharge 150) metering) ∧
    step { logging with pending := [.setLithology 12] } = .next (after (.setLithology 12) logging) := by
  refine ⟨by decide +kernel, ⟨by decide +kernel, by decide +kernel, by decide +kernel, rfl⟩,
    by decide +kernel, by decide +kernel, by decide +kernel, by decide +kernel, by decide +kernel,
    rfl, rfl, rfl⟩

theorem test_witness_FramesCrossTheLine :
    (∀ d, Frame.directive ⟨0, 3, [1, 2, 3, 4]⟩ = .directive d → d.arg.length ≤ 4) ∧
    receive (lineBits 4 (.holdSet 4)) = .valid 4 0 [4] ∧
    drivenBits 4 (.holdSet 4) = [(false, .start), (false, .arbitration), (false, .arbitration),
      (false, .arbitration), (false, .arbitration)] ++ (true, .stuff) ::
      (drivenBits 4 (.holdSet 4)).drop 6 ∧
    (drivenBits 4 (.holdSet 4)).drop 6 = (true, .arbitration) :: (drivenBits 4 (.holdSet 4)).drop 7 ∧
    (let s := withLine .owner (some (.holdSet 4)) rig
     s.link.line = .owner ∧ s.link.sending = some (.holdSet 4) ∧ s.station = some 3) ∧
    rig.link.line ≠ .owner := by
  refine ⟨fun d h => ?_, by decide +kernel, by decide +kernel, by decide +kernel, by decide +kernel,
    by decide +kernel⟩
  cases h
  decide

end Sys2Proof.Tests
end

section
/-! SUPPORT. The role owner map (R8): when a station claims a role, what the map reads off the claims, and which
changes of the peer view table leave it as it stands. -/

namespace Sys2Proof

theorem Freshness.heard_iff (f : Freshness) : f.heard = true ↔ f = .fresh ∨ f = .stale := by
  simp [Freshness.heard]

namespace Machine

/-! ### Claims of an entry (R8) -/

theorem PeerEntry.yieldsRole_iff (e : PeerEntry) (r : Role) :
    e.yieldsRole r = true ↔
      e.presence.freshness ≠ .unheard ∧ ∃ p, e.presence.content = some p ∧ p.yielded.has r = true := by
  cases content : e.presence.content <;> simp [PeerEntry.yieldsRole, content]

theorem PeerEntry.presenceClaims_iff (e : PeerEntry) (r : Role) :
    e.presenceClaims r = true ↔
      (e.presence.freshness = .fresh ∨ e.presence.freshness = .stale) ∧
        ∃ p, e.presence.content = some p ∧ p.held.has r = true := by
  cases content : e.presence.content <;> simp [PeerEntry.presenceClaims, content, Freshness.heard_iff]

/-- A claim in the words of R8: by presence or by announcement, and not yielded. -/
theorem PeerEntry.claims_iff (e : PeerEntry) (r : Role) :
    e.claims r = true ↔
      (((e.presence.freshness = .fresh ∨ e.presence.freshness = .stale) ∧
          ∃ p, e.presence.content = some p ∧ p.held.has r = true) ∨
        e.freshness (.announce r) = .fresh ∨ e.freshness (.announce r) = .stale) ∧
      ¬ (e.presence.freshness ≠ .unheard ∧
        ∃ p, e.presence.content = some p ∧ p.yielded.has r = true) := by
  rw [← PeerEntry.presenceClaims_iff, ← PeerEntry.yieldsRole_iff, ← Freshness.heard_iff, PeerEntry.claims,
    Bool.and_eq_true, Bool.or_eq_true, Bool.not_eq_true', Bool.not_eq_true]
  exact and_comm

/-- A claim looks at the content of the presence slot, at which slots are heard, and at whether the presence slot has
been heard at all. -/
theorem PeerEntry.claims_congr {e e' : PeerEntry} (r : Role)
    (content : e'.presence.content = e.presence.content)
    (heard : ∀ n, (e'.freshness n).heard = (e.freshness n).heard)
    (unheard : e'.freshness .presence = .unheard ↔ e.freshness .presence = .unheard) :
    e'.claims r = e.claims r := by
  have heardPresence : e'.presence.freshness.heard = e.presence.freshness.heard := heard .presence
  have yieldsUnless : (e'.presence.freshness != .unheard) = (e.presence.freshness != .unheard) := by
    rw [Bool.eq_iff_iff, bne_iff_ne, bne_iff_ne]
    exact not_congr unheard
  rw [PeerEntry.claims, PeerEntry.claims, PeerEntry.presenceClaims, PeerEntry.presenceClaims,
    PeerEntry.yieldsRole, PeerEntry.yieldsRole, content, heard, heardPresence, yieldsUnless]

theorem PeerEntry.marked_freshness (e : PeerEntry) (n m : SlotName) (f : Freshness) (age : Nat) :
    (e.marked n f age).freshness m = if m = n then f else e.freshness m := by
  rcases n with _ | role <;> rcases m with _ | other
  · rfl
  · cases other <;> rfl
  · cases role <;> rfl
  · cases role <;> cases other <;> rfl

@[simp] theorem PeerEntry.marked_presence_content (e : PeerEntry) (n : SlotName) (f : Freshness) (age : Nat) :
    (e.marked n f age).presence.content = e.presence.content := by
  rcases n with _ | role
  · rfl
  · cases role <;> rfl

/-- FRESH and STALE claim alike, so a FRESH slot that goes STALE keeps the entry's claims. -/
theorem PeerEntry.claims_marked_stale (e : PeerEntry) (n : SlotName) (age : Nat) (r : Role)
    (fresh : e.freshness n = .fresh) : (e.marked n .stale age).claims r = e.claims r := by
  apply PeerEntry.claims_congr
  case content => exact PeerEntry.marked_presence_content e n .stale age
  case heard =>
    intro m
    rw [PeerEntry.marked_freshness]
    by_cases same : m = n
    · rw [if_pos same, same, fresh]
      rfl
    · rw [if_neg same]
  case unheard =>
    rw [PeerEntry.marked_freshness]
    by_cases same : SlotName.presence = n
    · rw [if_pos same, same, fresh]
      exact iff_of_false (by decide) (by decide)
    · rw [if_neg same]

/-- An entry of which nothing has been heard claims no role. -/
@[simp] theorem PeerEntry.unheard_claims (r : Role) : PeerEntry.unheard.claims r = false := by
  cases r <;> rfl

/-! ### The map over a table -/

theorem mem_stations : ∀ st : Station, st ∈ stations := by decide

theorem stations_ascending : stations.Pairwise (· < ·) := by decide

/-- In an ascending list the first station with a property is the lowest one with it. -/
theorem find?_eq_some_iff_lowest (p : Station → Bool) (l : List Station) (ascending : l.Pairwise (· < ·))
    (st : Station) :
    l.find? p = some st ↔ st ∈ l ∧ p st = true ∧ ∀ lower ∈ l, lower < st → ¬ p lower = true := by
  induction l with
  | nil => simp only [List.find?_nil, List.not_mem_nil, false_and, reduceCtorEq]
  | cons x xs ih =>
    obtain ⟨below, rest⟩ := List.pairwise_cons.mp ascending
    cases claimed : p x with
    | true =>
      rw [List.find?_cons_of_pos claimed, Option.some.injEq]
      constructor
      · rintro rfl
        refine ⟨List.mem_cons_self, claimed, fun lower listed lt => ?_⟩
        rcases List.mem_cons.mp listed with same | later
        · exact absurd (same ▸ lt) (Nat.lt_irrefl _)
        · exact absurd (below lower later) (Nat.lt_asymm lt)
      · rintro ⟨listed, _, lowest⟩
        rcases List.mem_cons.mp listed with same | later
        · exact same.symm
        · exact absurd claimed (lowest x List.mem_cons_self (below st later))
    | false =>
      have unclaimed : ¬ p x = true := by rw [claimed]; exact Bool.false_ne_true
      rw [List.find?_cons_of_neg unclaimed, ih rest]
      constructor
      · rintro ⟨listed, holds, lowest⟩
        refine ⟨List.mem_cons_of_mem x listed, holds, fun lower lowerListed lt => ?_⟩
        rcases List.mem_cons.mp lowerListed with same | later
        · exact same ▸ unclaimed
        · exact lowest lower later lt
      · rintro ⟨listed, holds, lowest⟩
        rcases List.mem_cons.mp listed with same | later
        · exact absurd (same ▸ holds) unclaimed
        · exact ⟨later, holds, fun lower lowerListed => lowest lower (List.mem_cons_of_mem x lowerListed)⟩

/-- The owner is the lowest station that claims the role (R8). -/
theorem ownerIn_eq_some_iff (peers : Vector PeerEntry 8) (r : Role) (st : Station) :
    ownerIn peers r = some st ↔
      peers[st].claims r = true ∧ ∀ lower, lower < st → ¬ peers[lower].claims r = true := by
  rw [ownerIn, find?_eq_some_iff_lowest _ _ stations_ascending]
  simp only [mem_stations, true_and, forall_const]

/-- There is no owner exactly when no station claims the role (R8). -/
theorem ownerIn_eq_none_iff (peers : Vector PeerEntry 8) (r : Role) :
    ownerIn peers r = none ↔ ∀ st : Station, ¬ peers[st].claims r = true := by
  rw [ownerIn, List.find?_eq_none]
  simp only [mem_stations, forall_const]

/-- The map depends on the claims of the entries alone. -/
theorem ownerIn_congr {peers peers' : Vector PeerEntry 8} {r : Role}
    (claims : ∀ st : Station, peers'[st].claims r = peers[st].claims r) : ownerIn peers' r = ownerIn peers r := by
  simp only [ownerIn, claims]

/-- An entry replaced by one with the same claim leaves the map as it stands. -/
theorem ownerIn_put (peers : Vector PeerEntry 8) (st : Station) (e : PeerEntry) (r : Role)
    (claims : e.claims r = peers[st].claims r) : ownerIn (put peers st e) r = ownerIn peers r := by
  refine ownerIn_congr fun other => ?_
  by_cases same : st = other
  · subst same
    rw [put_get_same, claims]
  · rw [put_get_other peers st other e same]

@[simp] theorem ownerIn_peersAtReset (r : Role) : ownerIn peersAtReset r = none := by
  simp [ownerIn_eq_none_iff, peersAtReset]

/-! ### The map of a state -/

@[simp] theorem State.withPeers_peers (peers : Vector PeerEntry 8) (s : State) :
    (s.withPeers peers).peers = peers := by
  unfold State.withPeers
  dsimp only
  split <;> simp

@[simp] theorem State.withPeers_owner (peers : Vector PeerEntry 8) (s : State) (r : Role) :
    (s.withPeers peers).owner r = ownerIn peers r := by
  rw [State.owner, State.withPeers_peers]

theorem State.mapPeer_owner (st : Station) (f : PeerEntry → PeerEntry) (s : State) (r : Role)
    (claims : (f s.peers[st]).claims r = s.peers[st].claims r) : (s.mapPeer st f).owner r = s.owner r := by
  rw [State.mapPeer, State.withPeers_owner, ownerIn_put _ _ _ _ claims, State.owner]

@[simp] theorem State.portReset_peers (s : State) : s.portReset.peers = peersAtReset := rfl

theorem exec_slotStale (st : Station) (slot : SlotName) (s : State) :
    exec (.slotStale st slot) s = execSlotStale st slot s := rfl

theorem exec_reset (s : State) : exec .reset s = .next s.portReset := rfl

/-- SLOT_STALE does not change the map (R8). -/
theorem execSlotStale_owner (st : Station) (slot : SlotName) (s t : State) (r : Role)
    (next : execSlotStale st slot s = .next t) : t.owner r = s.owner r := by
  unfold execSlotStale at next
  cases next
  split
  · next due =>
    obtain ⟨fresh, _⟩ := due
    exact State.mapPeer_owner st _ s r (PeerEntry.claims_marked_stale _ slot _ r fresh)
  · rfl

end Machine

open Machine

/-! ### The obligation -/

/-- Settles O14: claims and map are R8's by `PeerEntry.claims_iff` and `ownerIn_eq_some_iff`; a slot that goes STALE
keeps every claim, and the table of a reset holds none. -/
theorem roleOwnerMap : Obligations.RoleOwnerMap := by
  intro r s
  simp only [← PeerEntry.claims_iff]
  refine ⟨ownerIn_eq_some_iff s.peers r, ownerIn_eq_none_iff s.peers r, fun st slot t next => ?_, fun t next => ?_⟩
  · rw [exec_slotStale] at next
    exact execSlotStale_owner st slot s t r next
  · rw [exec_reset] at next
    cases next
    rw [State.owner, State.portReset_peers, ownerIn_peersAtReset]

end Sys2Proof
end

section
/-! SUPPORT. The lines computed from the state (R167 to R169): where a cause stands in the cause set, when two sets
meet, what the mask holds, and when the rig is held. -/

namespace Sys2Proof.Machine

/-! ### Sets of causes as bits (R167) -/

/-- Two sets of bits meet exactly where some bit is in both. -/
theorem and_bne_zero_iff {w : Nat} (a b : BitVec w) :
    (a &&& b != 0#w) = true ↔ ∃ i, a.getLsbD i = true ∧ b.getLsbD i = true := by
  simp only [bne_iff_ne, ne_eq, BitVec.zero_iff_eq_false, Classical.not_forall, BitVec.getLsbD_and, Bool.not_eq_false,
    Bool.and_eq_true]

/-- Every cause has its bit among the eighteen. -/
theorem codeOf_causeTable_lt (c : Cause) : codeOf causeTable c < 18 := by
  cases c <;> decide

/-- A cause's set holds the bit at the cause's place and no other. -/
theorem causeBit_getLsbD (c : Cause) (i : Nat) :
    (causeBit c).getLsbD i = decide (i = codeOf causeTable c) := by
  have inWord : codeOf causeTable c < 32 := Nat.lt_trans (codeOf_causeTable_lt c) (by decide)
  rw [causeBit, ← BitVec.twoPow_eq, BitVec.getLsbD_twoPow, decide_eq_true inWord, Bool.true_and,
    decide_eq_decide]
  exact eq_comm

theorem State.raised_iff (s : State) (c : Cause) :
    s.raised c = true ↔ s.causes.getLsbD (codeOf causeTable c) = true := by
  rw [State.raised, and_bne_zero_iff]
  simp only [causeBit_getLsbD, decide_eq_true_eq, exists_eq_right]

theorem allCauses_getLsbD (i : Nat) : allCauses.getLsbD i = decide (i < 18) := by
  have ones : allCauses = (BitVec.allOnes 18).setWidth 32 := by decide
  rw [ones, BitVec.getLsbD_setWidth, BitVec.getLsbD_allOnes, ← Bool.decide_and, decide_eq_decide]
  omega

/-! ### The mask (R167) -/

theorem State.mask_configured {s : State} {c : NodeConfig} (configured : s.node.node = some c) :
    s.mask = c.mask := by
  rw [State.mask, configured]

theorem State.mask_unconfigured {s : State} (unconfigured : s.node.node = none) : s.mask = allCauses := by
  rw [State.mask, unconfigured]

/-! ### The lines (R169, R42) -/

theorem State.attentionLine_iff (s : State) :
    s.attentionLine = true ↔ ∃ i, s.causes.getLsbD i = true ∧ s.mask.getLsbD i = true :=
  and_bne_zero_iff s.causes s.mask

/-- The rig is held by a local reason or by another station's entry (R42). -/
theorem State.held_iff (s : State) :
    s.held = true ↔ s.holds.reasons ≠ .empty ∨ ∃ st : Station, s.holds.others[st] ≠ none := by
  rw [State.held, Bool.or_eq_true, bne_iff_ne, Vector.any_toList, Vector.any_eq_true]
  simp only [Option.isSome_iff_ne_none, Fin.exists_iff, Fin.getElem_fin]

/-- ALARM follows the hold set and four of the causes, each at its bit (R169). -/
theorem State.alarm_iff (s : State) :
    s.alarm = true ↔
      s.held = true ∨ s.causes.getLsbD 7 = true ∨ s.causes.getLsbD 8 = true ∨ s.causes.getLsbD 9 = true ∨
        s.causes.getLsbD 11 = true := by
  have pumpFailed : s.raised .pumpFailed = true ↔ s.causes.getLsbD 7 = true := s.raised_iff .pumpFailed
  have lowSuction : s.raised .lowSuction = true ↔ s.causes.getLsbD 8 = true := s.raised_iff .lowSuction
  have balanceAlarm : s.raised .balanceAlarm = true ↔ s.causes.getLsbD 9 = true := s.raised_iff .balanceAlarm
  have stepTimeout : s.raised .stepTimeout = true ↔ s.causes.getLsbD 11 = true := s.raised_iff .stepTimeout
  simp only [State.alarm, Bool.or_eq_true, pumpFailed, lowSuction, balanceAlarm, stepTimeout, or_assoc]

end Sys2Proof.Machine

namespace Sys2Proof

open Machine

/-! ### The obligation -/

/-- Settles O9: ATTN_N is the meeting of the causes with the mask (`State.attentionLine_iff`), the mask without a
configuration is `allCauses`, and ALARM is `State.alarm_iff` with the hold set as `State.held_iff` reads it. -/
theorem linesFollowTheCauses : Obligations.LinesFollowTheCauses := by
  intro s
  refine ⟨s.attentionLine_iff, fun c configured => State.mask_configured configured,
    fun unconfigured i => ?_, ?_⟩
  · rw [State.mask_unconfigured unconfigured, allCauses_getLsbD]
  · rw [State.alarm_iff, State.held_iff]

end Sys2Proof
end

section
/-! SUPPORT. Which blocks of the state a command can touch: the blocks by name, agreement of two states on every
other block, the footprint of each command, and the one theorem that `exec` keeps to it. -/

namespace Sys2Proof.Machine

/-- The fields of State by name. -/
inductive Block where
  | node | clock | time | timers | pins | peers | link | directives | holds | inventory | seq | circ | bal
  | depth | log | meter | port | causes | pending

/-- Two states agree on a block. -/
def State.same (s t : State) : Block → Prop
  | .node => t.node = s.node
  | .clock => t.clock = s.clock
  | .time => t.time = s.time
  | .timers => t.timers = s.timers
  | .pins => t.pins = s.pins
  | .peers => t.peers = s.peers
  | .link => t.link = s.link
  | .directives => t.directives = s.directives
  | .holds => t.holds = s.holds
  | .inventory => t.inventory = s.inventory
  | .seq => t.seq = s.seq
  | .circ => t.circ = s.circ
  | .bal => t.bal = s.bal
  | .depth => t.depth = s.depth
  | .log => t.log = s.log
  | .meter => t.meter = s.meter
  | .port => t.port = s.port
  | .causes => t.causes = s.causes
  | .pending => t.pending = s.pending

/-- `t` is `s` but for the blocks named. -/
def Touches (bs : List Block) (s t : State) : Prop := ∀ b, b ∉ bs → s.same t b

/-- Agreement on every other block, block by block: the form in which `simp` decides it. -/
theorem touches_iff (bs : List Block) (s t : State) :
    Touches bs s t ↔
      (.node ∉ bs → t.node = s.node) ∧ (.clock ∉ bs → t.clock = s.clock) ∧ (.time ∉ bs → t.time = s.time) ∧
      (.timers ∉ bs → t.timers = s.timers) ∧ (.pins ∉ bs → t.pins = s.pins) ∧ (.peers ∉ bs → t.peers = s.peers) ∧
      (.link ∉ bs → t.link = s.link) ∧ (.directives ∉ bs → t.directives = s.directives) ∧
      (.holds ∉ bs → t.holds = s.holds) ∧ (.inventory ∉ bs → t.inventory = s.inventory) ∧
      (.seq ∉ bs → t.seq = s.seq) ∧ (.circ ∉ bs → t.circ = s.circ) ∧ (.bal ∉ bs → t.bal = s.bal) ∧
      (.depth ∉ bs → t.depth = s.depth) ∧ (.log ∉ bs → t.log = s.log) ∧ (.meter ∉ bs → t.meter = s.meter) ∧
      (.port ∉ bs → t.port = s.port) ∧ (.causes ∉ bs → t.causes = s.causes) ∧
      (.pending ∉ bs → t.pending = s.pending) := by
  constructor
  · intro h
    exact ⟨h .node, h .clock, h .time, h .timers, h .pins, h .peers, h .link, h .directives, h .holds, h .inventory,
      h .seq, h .circ, h .bal, h .depth, h .log, h .meter, h .port, h .causes, h .pending⟩
  · rintro ⟨node, clock, time, timers, pins, peers, link, directives, holds, inventory, seq, circ, bal, depth, log,
      meter, port, causes, pending⟩ b
    cases b <;> assumption

theorem State.same_trans {s t u : State} {b : Block} (st : s.same t b) (tu : t.same u b) : s.same u b := by
  cases b <;> exact Eq.trans tu st

theorem Touches.refl (bs : List Block) (s : State) : Touches bs s s := by
  intro b _
  cases b <;> rfl

theorem Touches.mono {bs cs : List Block} {s t : State} (h : Touches bs s t) (sub : bs ⊆ cs) : Touches cs s t :=
  fun b out => h b fun into => out (sub into)

theorem Touches.trans {bs : List Block} {s t u : State} (st : Touches bs s t) (tu : Touches bs t u) :
    Touches bs s u :=
  fun b out => State.same_trans (st b out) (tu b out)

/-- One more operation, within the same blocks. -/
theorem Touches.andThen {bs cs : List Block} {s t u : State} (st : Touches bs s t) (tu : Touches cs t u)
    (sub : cs ⊆ bs) : Touches bs s u :=
  st.trans (tu.mono sub)

theorem Touches.ite {bs : List Block} {s t u : State} {p : Prop} [Decidable p] (yes : p → Touches bs s t)
    (no : ¬ p → Touches bs s u) : Touches bs s (if p then t else u) := by
  split
  case isTrue holds => exact yes holds
  case isFalse fails => exact no fails

/-- Two branches of an answer. -/
theorem Touches.ite_snd {bs : List Block} {s : State} {a b : Answered} {p : Prop} [Decidable p]
    (yes : p → Touches bs s a.2) (no : ¬ p → Touches bs s b.2) : Touches bs s (if p then a else b).2 := by
  split
  case isTrue holds => exact yes holds
  case isFalse fails => exact no fails

/-! ### Requests -/

/-- A request of a role is refused by R2, or its role is active and it is carried out. -/
theorem State.roleRequest_cases (s : State) (r : Role) (f : State → Answered) :
    (s.roleRequest r f).2 = s ∨ s.active r = true ∧ s.roleRequest r f = f s := by
  unfold State.roleRequest State.active
  split
  · exact .inl rfl
  · split
    · exact .inl rfl
    · exact .inr ⟨by simp_all, rfl⟩

/-- A request of an acting block changes nothing, or the block acts and it is carried out. -/
theorem State.runningRequest_cases (s : State) (r : Role) (f : State → Answered) :
    (s.runningRequest r f).2 = s ∨ s.acts r = true ∧ s.runningRequest r f = f s := by
  unfold State.runningRequest
  rcases s.roleRequest_cases r (fun s => if s.running then f s else s.refused .badState) with same | ⟨active, eq⟩
  · exact .inl same
  · rw [eq]
    split
    case isTrue running => exact .inr ⟨by simp [State.acts, active, running], rfl⟩
    case isFalse => exact .inl rfl

theorem Touches.roleRequest {bs : List Block} {s : State} {r : Role} {f : State → Answered}
    (h : Touches bs s (f s).2) : Touches bs s (s.roleRequest r f).2 := by
  rcases s.roleRequest_cases r f with same | ⟨_, eq⟩
  · rw [same]; exact .refl bs s
  · rw [eq]; exact h

theorem Touches.runningRequest {bs : List Block} {s : State} {r : Role} {f : State → Answered}
    (h : Touches bs s (f s).2) : Touches bs s (s.runningRequest r f).2 := by
  rcases s.runningRequest_cases r f with same | ⟨_, eq⟩
  · rw [same]; exact .refl bs s
  · rw [eq]; exact h

/-- What a state is told by its next outcome: it is there, and it keeps to the blocks. -/
def EndsWithin (bs : List Block) (s : State) (o : Host.Outcome State Fault Refusal) : Prop :=
  ∃ t, o = .next t ∧ Touches bs s t

theorem EndsWithin.next {bs : List Block} {s t : State} (h : Touches bs s t) : EndsWithin bs s (.next t) :=
  ⟨t, rfl, h⟩

/-- An answer goes to the port, and the rest is the request's. -/
theorem EndsWithin.answered {bs : List Block} {s : State} {i : Instr} {a : Answered} (h : Touches bs s a.2) :
    EndsWithin (.port :: bs) s (answered i a) := by
  refine ⟨_, rfl, Touches.trans (h.mono (List.subset_cons_self _ _)) ?_⟩
  intro b out
  cases b
  case port => exact absurd List.mem_cons_self out
  all_goals rfl

end Sys2Proof.Machine
end

section
/-! SUPPORT. The footprint of every command, and the theorem that `exec` always answers a next state and keeps to
the command's footprint. -/

namespace Sys2Proof.Machine

/-- What a change of the local reasons touches. -/
def holdBlocks : List Block := [.link, .holds, .seq, .causes]

/-- What the sequencer going on touches: a step's move, and a fault with its hold. -/
def sequencerBlocks : List Block := [.inventory, .link, .holds, .seq, .causes]

/-- What the yield of a role touches. -/
def yieldBlocks : List Block := [.node, .timers, .link, .holds, .seq, .log, .causes]

/-- What a PRESENCE stored and handed on touches. -/
def presenceBlocks : List Block := [.node, .timers, .peers, .link, .holds, .inventory, .seq, .log, .causes]

/-- What an announcement stored and handed on touches. -/
def announcementBlocks : List Block :=
  [.node, .timers, .peers, .link, .holds, .inventory, .seq, .circ, .depth, .log, .meter, .causes]

/-- What a directive carried out touches. -/
def directiveBlocks : List Block := [.directives, .seq, .circ, .log, .causes]

/-- What both resets touch. -/
def resetBlocks : List Block :=
  [.node, .clock, .timers, .peers, .link, .directives, .holds, .inventory, .seq, .circ, .bal, .depth, .log, .meter,
   .port, .causes]

/-- The blocks that a command can touch. -/
def footprint : Instr → List Block
  | .powerOnReset _ | .reset => resetBlocks
  | .requestDecode _ | .responseRead _ => [.port]
  | .status | .readAttention | .readPeer _ | .readRack | .readString | .readCursor | .readMeters => [.port]
  | .clearAttention _ => [.port, .causes]
  | .hold | .releaseHold _ | .clearHold _ | .makeup | .breakout | .tripIn _ | .tripOut _ | .resume | .retryStep =>
    .port :: sequencerBlocks
  | .abort | .confirmRecovery => .port :: holdBlocks
  | .stopTrip => [.port, .seq]
  | .resolveTransit .. => [.port, .inventory, .seq]
  | .sendDirective .. | .unmute => [.port, .link]
  | .configure .. => [.port, .node]
  | .start => .port :: yieldBlocks
  | .setClock .. => [.port, .clock, .timers]
  | .registerRod .. | .unregisterRod _ | .appendString .. | .setCarousel _ | .correctTally _ | .clearTally =>
    [.port, .inventory]
  | .startPump _ | .stopPump _ => [.port, .circ, .causes]
  | .unlock | .confirmBled | .addAdditive .. => [.port, .circ]
  | .newHole => [.port, .depth, .log, .causes]
  | .setLithology _ => [.port, .log, .causes]
  | .addRemark _ | .markWater | .trim _ | .fetchRecord .. => [.port, .log]
  | .verify => [.port, .timers, .log]
  | .openJob _ | .suspendJob | .resumeJob | .closeJob | .fetchSummary => [.port, .meter]
  | .addCharge _ => [.port, .meter, .causes]
  | .frameBegin | .arbitrationLoss | .frameReceiveError _ | .idleIntervalComplete | .dominantEdgeSeen => [.link]
  | .bitFault | .stationClash | .lineJammed => [.link, .causes]
  | .sendPeriodExpiry => [.timers, .link]
  | .frameComplete => .directives :: announcementBlocks
  | .presenceReceived .. => presenceBlocks
  | .announcementReceived .. => announcementBlocks
  | .holdSetReceived .. | .holdSilenceExpiry _ => holdBlocks
  | .holdReleaseReceived _ => sequencerBlocks
  | .directiveReceived .. => .link :: directiveBlocks
  | .slotStale .. => [.peers, .seq, .log]
  | .slotLost .. => .peers :: .log :: sequencerBlocks
  | .listenTimerExpiry => [.node, .timers, .link, .holds, .seq, .circ, .depth, .log, .meter, .causes]
  | .timeBaseStep => [.time, .peers, .holds, .seq, .circ, .log]
  | .clockSecond => [.clock, .timers]
  | .secondStep => [.clock, .timers, .meter, .causes]
  | .stepTimerExpiry => holdBlocks
  | .pumpTimerExpiry _ => [.circ, .causes]
  | .balancePeriodExpiry => .timers :: .circ :: .bal :: holdBlocks
  | .ropSampleExpiry => [.timers, .depth]
  | .rotationWaitExpiry | .rotationPulse => [.depth, .log]
  | .verifyScanStep => [.timers, .log, .causes]
  | .handlerInputChange .. => .pins :: sequencerBlocks
  | .carouselPulse => [.inventory]
  | .pumpRunningChange .. => [.pins, .circ, .causes]
  | .returnPulse | .strokePulse _ | .pressureSample .. => [.circ]
  | .waterPulse => [.bal]
  | .encoderLineChange .. => [.pins, .depth, .log, .causes]
  | .homeSwitchEdge _ | .headDriveChange _ => [.pins, .depth, .log]
  | .pitLevelSample .. => [.circ, .bal, .causes]

/-! ### The shared operations -/

theorem placeReason_touches (r : HoldReason) (s : State) : Touches holdBlocks s (s.placeReason r) := by
  simp [touches_iff, holdBlocks]

theorem removeReason_touches (r : HoldReason) (s : State) : Touches holdBlocks s (s.removeReason r) := by
  simp [touches_iff, holdBlocks]

theorem settle_touches (s : State) : Touches sequencerBlocks s s.settle := by
  simp [touches_iff, sequencerBlocks]

theorem startCycle_touches {k : CycleKind} {s t : State} (h : s.startCycle k = .ok t) : Touches [.seq] s t := by
  rw [State.startCycle_frame' h]
  simp [touches_iff]

theorem presenceArrival_touches (st : Station) (p : Presence) (s : State) :
    Touches presenceBlocks s (s.presenceArrival st p) := by
  simp [touches_iff, presenceBlocks]

theorem announcementArrival_touches (st : Station) (a : Announcement) (s : State) :
    Touches announcementBlocks s (s.announcementArrival st a) := by
  simp [touches_iff, announcementBlocks]

/-- Holds changed, then the sequencer brought up to date. -/
theorem Touches.settle {s t : State} (h : Touches sequencerBlocks s t) : Touches sequencerBlocks s t.settle :=
  h.trans (settle_touches t)

theorem holdBlocks_sub : holdBlocks ⊆ sequencerBlocks := by simp [holdBlocks, sequencerBlocks]

/-! ### Holds and cycles -/

theorem holdRequest_touches (s : State) : Touches sequencerBlocks s (holdRequest s).2 := by
  unfold holdRequest
  exact .ite_snd (fun _ => ((placeReason_touches .driller s).mono holdBlocks_sub).settle) fun _ => .refl _ s

theorem releaseHoldRequest_touches (reason : Byte) (s : State) :
    Touches sequencerBlocks s (releaseHoldRequest reason s).2 := by
  unfold releaseHoldRequest
  split
  case h_1 => exact .refl _ s
  case h_2 r _ =>
    exact .ite_snd (fun _ => .refl _ s) fun _ => .ite_snd (fun _ => .refl _ s) fun _ =>
      ((removeReason_touches r s).mono holdBlocks_sub).settle

theorem clearHoldRequest_touches (station : Byte) (s : State) :
    Touches sequencerBlocks s (clearHoldRequest station s).2 := by
  unfold clearHoldRequest
  (repeat' split) <;> simp [touches_iff, sequencerBlocks, State.refused]

theorem cycleRequest_touches (k : CycleKind) (s : State) : Touches sequencerBlocks s (cycleRequest k s).2 := by
  unfold cycleRequest
  refine .ite_snd (fun _ => .refl _ s) fun _ => .ite_snd (fun _ => .refl _ s) fun _ => ?_
  split
  case h_1 => exact .refl _ s
  case h_2 t started => exact ((startCycle_touches started).mono (by simp [sequencerBlocks])).settle

theorem tripRequest_touches (k : CycleKind) (count : Byte) (s : State) :
    Touches sequencerBlocks s (tripRequest k count s).2 := by
  unfold tripRequest
  refine .ite_snd (fun _ => .refl _ s) fun _ => .ite_snd (fun _ => .refl _ s) fun _ =>
    .ite_snd (fun _ => .refl _ s) fun _ => .ite_snd (fun _ => .refl _ s) fun _ => ?_
  split
  case h_1 => exact .refl _ s
  case h_2 t started =>
    refine .settle (.trans ?_ ((startCycle_touches started).mono (by simp [sequencerBlocks])))
    simp [touches_iff, sequencerBlocks]

theorem resumeRequest_touches (s : State) : Touches sequencerBlocks s (resumeRequest s).2 := by
  unfold resumeRequest
  refine .ite_snd (fun _ => .refl _ s) fun _ => .ite_snd (fun _ => .refl _ s) fun _ => .ite_snd (fun _ => ?_) fun _ => ?_
  · split
    case h_1 => exact .refl _ s
    case h_2 t started =>
      refine .settle (.trans ?_ ((startCycle_touches started).mono (by simp [sequencerBlocks])))
      simp [touches_iff, sequencerBlocks]
  · simp [touches_iff, sequencerBlocks]

theorem retryStepRequest_touches (s : State) : Touches sequencerBlocks s (retryStepRequest s).2 := by
  unfold retryStepRequest
  split
  case h_1 => exact .settle (by simp [touches_iff, sequencerBlocks])
  case h_2 => exact .refl _ s

theorem abortRequest_touches (s : State) : Touches holdBlocks s (abortRequest s).2 := by
  unfold abortRequest
  dsimp only
  (repeat' split) <;> simp [touches_iff, holdBlocks, State.refused]

theorem resolveTransitRequest_touches (destination slot : Byte) (s : State) :
    Touches [.inventory, .seq] s (resolveTransitRequest destination slot s).2 := by
  unfold resolveTransitRequest State.placed
  (repeat' split) <;> simp [touches_iff, State.refused]

theorem confirmRecoveryRequest_touches (s : State) : Touches holdBlocks s (confirmRecoveryRequest s).2 := by
  unfold confirmRecoveryRequest
  (repeat' split) <;> simp [touches_iff, holdBlocks, State.refused]

/-! ### Rods -/

theorem registerRodRequest_touches (slot : Byte) (id : BitVec 16) (kind : Byte) (length count : BitVec 16) (s : State) :
    Touches [.inventory] s (registerRodRequest slot id kind length count s).2 := by
  unfold registerRodRequest
  (repeat' split) <;> simp [touches_iff, State.refused]

theorem unregisterRodRequest_touches (slot : Byte) (s : State) :
    Touches [.inventory] s (unregisterRodRequest slot s).2 := by
  unfold unregisterRodRequest
  (repeat' split) <;> simp [touches_iff, State.refused]

theorem appendStringRequest_touches (id : BitVec 16) (kind : Byte) (length count : BitVec 16) (s : State) :
    Touches [.inventory] s (appendStringRequest id kind length count s).2 := by
  unfold appendStringRequest
  (repeat' split) <;> simp [touches_iff, State.refused]

theorem setCarouselRequest_touches (index : Byte) (s : State) :
    Touches [.inventory] s (setCarouselRequest index s).2 := by
  unfold setCarouselRequest
  split <;> simp [touches_iff]

theorem correctTallyRequest_touches (offset : BitVec 16) (s : State) :
    Touches [.inventory] s (correctTallyRequest offset s).2 := by
  unfold correctTallyRequest
  (repeat' split) <;> simp [touches_iff, State.refused]

/-- R61's check before a request on the inventory. -/
theorem Touches.inventoryRequest {bs : List Block} {s : State} {f : State → Answered} (h : Touches bs s (f s).2) :
    Touches bs s (s.inventoryRequest f).2 :=
  .runningRequest (.ite_snd (fun _ => .refl bs s) fun _ => h)

/-! ### Circulation and balance -/

theorem startPumpRequest_touches (pump : Byte) (s : State) :
    Touches [.circ, .causes] s (startPumpRequest pump s).2 := by
  unfold startPumpRequest
  (repeat' split) <;> simp [touches_iff, State.refused]

theorem stopPumpRequest_touches (pump : Byte) (s : State) :
    Touches [.circ, .causes] s (stopPumpRequest pump s).2 := by
  unfold stopPumpRequest
  (repeat' split) <;> simp [touches_iff, State.refused]

theorem unlockRequest_touches (s : State) : Touches [.circ] s (unlockRequest s).2 := by
  unfold unlockRequest
  (repeat' split) <;> simp [touches_iff, State.refused]

theorem confirmBledRequest_touches (s : State) : Touches [.circ] s (confirmBledRequest s).2 := by
  unfold confirmBledRequest
  split <;> simp [touches_iff, State.refused]

theorem addAdditiveRequest_touches (kind : Byte) (units : BitVec 16) (s : State) :
    Touches [.circ] s (addAdditiveRequest kind units s).2 := by
  unfold addAdditiveRequest
  (repeat' split) <;> simp [touches_iff]

/-! ### Depth and log -/

theorem asHead_touches {bs : List Block} {s t : State} {f : HeadConfig → State} (base : Touches bs s t)
    (h : ∀ c, Touches bs s (f c)) : Touches bs s (t.asHead f) := by
  unfold State.asHead
  (repeat' split)
  · exact h _
  · exact base
  · exact base

theorem newHoleRequest_touches (s : State) : Touches [.depth, .log, .causes] s (newHoleRequest s).2 := by
  unfold newHoleRequest
  refine .ite_snd (fun _ => .refl _ s) fun _ => asHead_touches ?_ fun c => ?_ <;> simp [touches_iff]

theorem setLithologyRequest_touches (lithology : Byte) (s : State) :
    Touches [.log, .causes] s (setLithologyRequest lithology s).2 := by
  unfold setLithologyRequest
  dsimp only
  (repeat' split) <;> simp [touches_iff]

theorem addRemarkRequest_touches (code : Byte) (s : State) : Touches [.log] s (addRemarkRequest code s).2 := by
  unfold addRemarkRequest
  dsimp only
  (repeat' split) <;> simp [touches_iff, State.refused]

theorem markWaterRequest_touches (s : State) : Touches [.log] s (markWaterRequest s).2 := by
  simp [touches_iff, markWaterRequest]

theorem trimRequest_touches (count : BitVec 16) (s : State) : Touches [.log] s (trimRequest count s).2 := by
  unfold trimRequest
  dsimp only
  (repeat' split) <;> simp [touches_iff, State.refused]

theorem fetchRecordRequest_touches (form : Byte) (sequence : BitVec 32) (s : State) :
    Touches [.log] s (fetchRecordRequest form sequence s).2 := by
  unfold fetchRecordRequest
  (repeat' split) <;> simp [touches_iff, State.refused]

theorem verifyRequest_touches (s : State) : Touches [.timers, .log] s (verifyRequest s).2 := by
  unfold verifyRequest
  split <;> simp [touches_iff, State.refused]

/-! ### Job meter -/

theorem openJobRequest_touches (number : BitVec 16) (s : State) : Touches [.meter] s (openJobRequest number s).2 := by
  unfold openJobRequest
  dsimp only
  (repeat' split) <;> simp [touches_iff, State.refused]

theorem jobStateRequest_touches (old new : JobState) (s : State) :
    Touches [.meter] s (jobStateRequest old new s).2 := by
  unfold jobStateRequest
  split <;> simp [touches_iff, State.refused]

theorem closeJobRequest_touches (s : State) : Touches [.meter] s (closeJobRequest s).2 := by
  unfold closeJobRequest
  split <;> simp [touches_iff, State.refused]

theorem addChargeRequest_touches (amount : BitVec 32) (s : State) :
    Touches [.meter, .causes] s (addChargeRequest amount s).2 := by
  unfold addChargeRequest
  dsimp only
  (repeat' split) <;> simp [touches_iff, State.refused]

theorem fetchSummaryRequest_touches (s : State) : Touches [.meter] s (fetchSummaryRequest s).2 := by
  unfold fetchSummaryRequest
  split <;> simp [touches_iff, State.refused]

theorem asCab_touches {bs : List Block} {s : State} {f : CabConfig → State} (h : ∀ c, Touches bs s (f c)) :
    Touches bs s (s.asCab f) := by
  unfold State.asCab
  (repeat' split)
  · exact h _
  · exact .refl bs s
  · exact .refl bs s

/-! ### Link, port and supervisor -/

theorem sendDirectiveRequest_touches (role code : Byte) (arg : List Byte) (s : State) :
    Touches [.link] s (sendDirectiveRequest role code arg s).2 := by
  unfold sendDirectiveRequest
  (repeat' split) <;> simp [touches_iff, State.refused]

theorem unmuteRequest_touches (s : State) : Touches [.link] s (unmuteRequest s).2 := by
  unfold unmuteRequest
  split <;> simp [touches_iff, State.refused]

theorem stopTripRequest_touches (s : State) : Touches [.seq] s (stopTripRequest s).2 := by
  simp [touches_iff, stopTripRequest]

theorem clearAttentionRequest_touches (named : BitVec 32) (s : State) :
    Touches [.causes] s (clearAttentionRequest named s).2 := by
  unfold clearAttentionRequest
  split <;> simp [touches_iff]

/-- A directive carried out changes what the request it stands for would change (R39). -/
theorem directiveRequest_touches (c : DirectiveCode) (arg : Byte) (s : State) :
    Touches [.seq, .circ, .log, .causes] s (directiveRequest c arg s).2 := by
  cases c
  case setLithology => exact (setLithologyRequest_touches arg s).mono (by simp)
  case addRemark => exact (addRemarkRequest_touches arg s).mono (by simp)
  case markWater => exact (markWaterRequest_touches s).mono (by simp)
  case startPump => exact (startPumpRequest_touches arg s).mono (by simp)
  case stopPump => exact (stopPumpRequest_touches arg s).mono (by simp)
  case stopTrip => exact (stopTripRequest_touches s).mono (by simp)

theorem carryOut_touches (r : Role) (d : Directive) (s : State) :
    Touches [.seq, .circ, .log, .causes] s (s.carryOut r d).2 := by
  refine .runningRequest ?_
  split
  · exact .refl _ s
  · exact directiveRequest_touches _ _ s

theorem takeDirective_touches (r : Role) (source : Station) (d : Directive) (s : State) :
    Touches directiveBlocks s (s.takeDirective r source d) := by
  refine ((carryOut_touches r d s).mono (by simp [directiveBlocks])).trans ?_
  simp [touches_iff, directiveBlocks, State.takeDirective]

theorem routeDirective_touches (source : Station) (d : Directive) (s : State) :
    Touches directiveBlocks s (s.routeDirective source d) := by
  unfold State.routeDirective
  split
  · exact .refl _ s
  · exact .ite (fun _ => takeDirective_touches _ source d s) fun _ => .refl _ s

theorem frameEnded_touches (s : State) : Touches [.link] s s.frameEnded := by
  simp [touches_iff, State.frameEnded]

/-- A received frame does to the state what its row does, once reception has ended. -/
theorem deliver_touches {bs : List Block} (source : Station) {s : State} {f : State → State} (link : .link ∈ bs)
    (causes : .causes ∈ bs) (h : ∀ u, Touches bs u (f u)) : Touches bs s (s.deliver source f) := by
  have ended : Touches bs s s.frameEnded := (frameEnded_touches s).mono (by simp [link])
  refine .ite (fun _ => .ite (fun _ => ended.trans ?_) fun _ => ended.trans (h _)) fun _ => .refl bs s
  simp [touches_iff, State.clash, link, causes]

theorem completedFrame_touches (own : Station) (f : Frame) (s : State) :
    Touches (.directives :: announcementBlocks) s (s.completedFrame own f) := by
  cases f
  case holdSet => exact .refl _ s
  case holdRelease => exact .refl _ s
  case directive d => exact (routeDirective_touches own d s).mono (by simp [directiveBlocks, announcementBlocks])
  case announce a => exact (announcementArrival_touches own a s).mono (List.subset_cons_self _ _)
  case presence p =>
    exact (presenceArrival_touches own p s).mono (by simp [presenceBlocks, announcementBlocks])

theorem configureRequest_touches (group : Byte) (values : List Byte) (s : State) :
    Touches [.node] s (configureRequest group values s).2 := by
  unfold configureRequest
  (repeat' split) <;> simp [touches_iff, State.refused]

theorem dropOwnEntry_touches (s : State) : Touches holdBlocks s s.dropOwnEntry := by
  unfold State.dropOwnEntry
  split
  · simp [touches_iff, holdBlocks]
  · exact .refl _ s

theorem yieldRoles_touches (f : Role → Bool) (s : State) : Touches yieldBlocks s (s.yieldRoles f) := by
  simp [touches_iff, yieldBlocks]

theorem beginScan_touches (s : State) : Touches [.timers, .log] s s.beginScan := by
  simp [touches_iff]

theorem started_touches (s : State) : Touches yieldBlocks s s.started := by
  have entered (s1 : State) (h : Touches yieldBlocks s s1) (f : Role → Bool) :
      Touches yieldBlocks s (s1.yieldRoles f).dropOwnEntry :=
    .andThen (h.trans (yieldRoles_touches f s1)) (dropOwnEntry_touches _) (by simp [holdBlocks, yieldBlocks])
  refine .ite (fun _ => .andThen (entered _ ?_ _) (beginScan_touches _) (by simp [yieldBlocks])) fun _ => entered _ ?_ _
  all_goals simp [touches_iff, yieldBlocks]

theorem startRequest_touches (s : State) : Touches yieldBlocks s (startRequest s).2 :=
  .ite_snd (fun _ => .refl _ s) fun _ => started_touches s

theorem setClockRequest_touches (day minute : BitVec 16) (second : Byte) (s : State) :
    Touches [.clock, .timers] s (setClockRequest day minute second s).2 := by
  unfold setClockRequest
  split <;> simp [touches_iff]

/-! ### RUNNING entry -/

theorem handlerEntry_touches (s : State) : Touches holdBlocks s s.handlerEntry :=
  .ite (fun _ => by simp [touches_iff, holdBlocks]) fun _ => .refl _ s

theorem mudEntry_touches (s : State) : Touches [.timers, .circ, .causes] s s.mudEntry :=
  .ite (fun _ => by simp [touches_iff]) fun _ => .refl _ s

theorem headEntry_touches (s : State) : Touches [.timers, .depth, .log] s s.headEntry :=
  .ite (fun _ => by simp [touches_iff]) fun _ => .refl _ s

theorem cabEntry_touches (s : State) : Touches [.timers, .meter] s s.cabEntry :=
  .ite (fun _ => by simp [touches_iff]) fun _ => .refl _ s

theorem allDue_touches (s : State) : Touches [.link] s s.allDue := by
  simp [touches_iff, State.allDue]

theorem enterRunning_touches (s : State) : Touches (footprint .listenTimerExpiry) s s.enterRunning := by
  refine .andThen (.andThen (.andThen (.andThen (.andThen ?_ (handlerEntry_touches _) ?_) (mudEntry_touches _) ?_)
    (headEntry_touches _) ?_) (cabEntry_touches _) ?_) (allDue_touches _) ?_
  · simp [touches_iff, footprint]
  all_goals simp [footprint, holdBlocks]

end Sys2Proof.Machine
end

section
/-! SUPPORT. Every command answers a next state and keeps to its footprint; the queue is in none of them. -/

namespace Sys2Proof.Machine

/-! ### Events -/

theorem execSlotStale_within (st : Station) (n : SlotName) (s : State) :
    EndsWithin [.peers, .seq, .log] s (execSlotStale st n s) :=
  .next (.ite (fun _ => by simp [touches_iff]) fun _ => .refl _ s)

theorem execSlotLost_within (st : Station) (n : SlotName) (s : State) :
    EndsWithin (.peers :: .log :: sequencerBlocks) s (execSlotLost st n s) := by
  refine .next ?_
  (repeat' split) <;> simp [touches_iff, sequencerBlocks]

theorem execHoldSilenceExpiry_within (st : Station) (s : State) :
    EndsWithin holdBlocks s (execHoldSilenceExpiry st s) := by
  refine .next ?_
  (repeat' split) <;> simp [touches_iff, holdBlocks]

theorem execTimeBaseStep_within (s : State) :
    EndsWithin [.time, .peers, .holds, .seq, .circ, .log] s (execTimeBaseStep s) := by
  refine .next ?_
  (repeat' split) <;> simp [touches_iff, State.toTenth, State.ages]

theorem execClockSecond_within (s : State) : EndsWithin [.clock, .timers] s (execClockSecond s) := by
  refine .next ?_
  split <;> simp [touches_iff]

theorem execSecondStep_within (s : State) :
    EndsWithin [.clock, .timers, .meter, .causes] s (execSecondStep s) :=
  .next (asCab_touches fun _ => by simp [touches_iff])

theorem execStepTimerExpiry_within (s : State) : EndsWithin holdBlocks s (execStepTimerExpiry s) :=
  .next (.ite (fun _ => by simp [touches_iff, holdBlocks]) fun _ => .refl _ s)

theorem execPumpTimerExpiry_within (p : Pump) (s : State) :
    EndsWithin [.circ, .causes] s (execPumpTimerExpiry p s) :=
  .next (.ite (fun _ => by simp [touches_iff]) fun _ => .refl _ s)

theorem execBalancePeriodExpiry_within (s : State) :
    EndsWithin (.timers :: .circ :: .bal :: holdBlocks) s (execBalancePeriodExpiry s) := by
  refine .next (.ite (fun _ => ?_) fun _ => .refl _ s)
  split
  · simp [touches_iff, holdBlocks]
  · exact .refl _ s

theorem execRopSampleExpiry_within (s : State) : EndsWithin [.timers, .depth] s (execRopSampleExpiry s) :=
  .next (asHead_touches (.refl _ s) fun _ => by simp [touches_iff])

theorem execRotationWaitExpiry_within (s : State) : EndsWithin [.depth, .log] s (execRotationWaitExpiry s) :=
  .next (asHead_touches (.refl _ s) fun _ => .ite (fun _ => by simp [touches_iff]) fun _ => .refl _ s)

theorem execRotationPulse_within (s : State) : EndsWithin [.depth, .log] s (execRotationPulse s) :=
  .next (asHead_touches (.refl _ s) fun _ => by simp [touches_iff])

theorem execVerifyScanStep_within (s : State) : EndsWithin [.timers, .log, .causes] s (execVerifyScanStep s) := by
  refine .next ?_
  (repeat' split) <;> simp [touches_iff]

theorem execHandlerInputChange_within (input : HandlerInput) (level : Level) (s : State) :
    EndsWithin (.pins :: sequencerBlocks) s (execHandlerInputChange input level s) :=
  .next (by simp [touches_iff, sequencerBlocks])

theorem execPumpRunningChange_within (p : Pump) (level : Level) (s : State) :
    EndsWithin [.pins, .circ, .causes] s (execPumpRunningChange p level s) := by
  refine .next ?_
  (repeat' split) <;> simp [touches_iff]

theorem execPressureSample_within (valid : Bool) (value : BitVec 16) (s : State) :
    EndsWithin [.circ] s (execPressureSample valid value s) := by
  refine .next ?_
  (repeat' split) <;> simp [touches_iff]

theorem execPitLevelSample_within (channel : Fin 4) (valid : Bool) (value : BitVec 16) (s : State) :
    EndsWithin [.circ, .bal, .causes] s (execPitLevelSample channel valid value s) := by
  refine .next ?_
  dsimp only
  (repeat' split) <;> simp [touches_iff]

theorem execEncoderLineChange_within (a b : Level) (s : State) :
    EndsWithin [.pins, .depth, .log, .causes] s (execEncoderLineChange a b s) := by
  refine .next (.ite (fun _ => ?_) fun _ => asHead_touches ?_ fun _ => .ite (fun _ => ?_) fun _ => ?_) <;>
    simp [touches_iff]

theorem execHomeSwitchEdge_within (closed : Level) (s : State) :
    EndsWithin [.pins, .depth, .log] s (execHomeSwitchEdge closed s) := by
  refine .next (.ite (fun _ => ?_) fun _ => asHead_touches ?_ fun _ => ?_) <;> simp [touches_iff]

theorem execHeadDriveChange_within (level : Level) (s : State) :
    EndsWithin [.pins, .depth, .log] s (execHeadDriveChange level s) := by
  refine .next (.ite (fun _ => ?_) fun _ => asHead_touches ?_ fun _ => ?_) <;> simp [touches_iff]

theorem execFrameBegin_within (s : State) : EndsWithin [.link] s (execFrameBegin s) := by
  refine .next (.ite (fun _ => ?_) fun _ => .refl _ s)
  split
  · simp [touches_iff]
  · exact .refl _ s

theorem execBitFault_within (s : State) : EndsWithin [.link, .causes] s (execBitFault s) := by
  refine .next ?_
  split <;> simp [touches_iff]

theorem execFrameComplete_within (s : State) :
    EndsWithin (.directives :: announcementBlocks) s (execFrameComplete s) := by
  refine .next ?_
  split
  · exact .trans (by simp [touches_iff, announcementBlocks]) (completedFrame_touches _ _ _)
  · exact .refl _ s

theorem execSendPeriodExpiry_within (s : State) : EndsWithin [.timers, .link] s (execSendPeriodExpiry s) := by
  refine .next ?_
  split <;> simp [touches_iff, State.allDue]

theorem execIdleIntervalComplete_within (s : State) : EndsWithin [.link] s (execIdleIntervalComplete s) := by
  refine .next ?_
  split <;> simp [touches_iff]

theorem execRequestDecode_within (bytes : List Byte) (s : State) :
    EndsWithin [.port] s (execRequestDecode bytes s) := by
  refine .next ?_
  (repeat' split) <;> simp [touches_iff]

theorem powerOn_touches (valid : Bool) (s : State) : Touches resetBlocks s (s.powerOn valid) := by
  refine .ite (fun _ => ?_) fun _ => ?_ <;>
    simp [touches_iff, resetBlocks, State.initialised, State.cleared]

theorem portReset_touches (s : State) : Touches resetBlocks s s.portReset := by
  simp [touches_iff, resetBlocks, State.portReset, State.cleared]

/-- A read-out changes nothing but the answer. -/
theorem readOut_within (i : Instr) (r : Role) (f : State → Reply) (s : State) :
    EndsWithin [.port] s (answered i (s.roleRequest r fun s => (f s, s))) :=
  .answered (.roleRequest (.refl _ s))

/-! ### Every command -/

/-- Every command answers a next state, and that state differs from the one before in the command's footprint
alone. -/
theorem exec_within (i : Instr) (s : State) : EndsWithin (footprint i) s (exec i s) := by
  cases i with
  | powerOnReset kept => exact .next (powerOn_touches _ s)
  | requestDecode bytes => exact execRequestDecode_within bytes s
  | responseRead n => exact .next (by simp [touches_iff, footprint])
  | status => exact .answered (.refl _ s)
  | readAttention => exact .answered (.refl _ s)
  | clearAttention named => exact .answered (clearAttentionRequest_touches named s)
  | readPeer st =>
    refine .answered ?_
    unfold readPeerRequest
    split <;> exact .refl _ s
  | hold => exact .answered (holdRequest_touches s)
  | releaseHold reason => exact .answered (releaseHoldRequest_touches reason s)
  | clearHold st => exact .answered (clearHoldRequest_touches st s)
  | sendDirective role code arg => exact .answered (sendDirectiveRequest_touches role code arg s)
  | unmute => exact .answered (unmuteRequest_touches s)
  | reset => exact .next (portReset_touches s)
  | configure group values => exact .answered (configureRequest_touches group values s)
  | start => exact .answered (startRequest_touches s)
  | setClock day minute second => exact .answered (setClockRequest_touches day minute second s)
  | registerRod slot id kind length count =>
    exact .answered (.inventoryRequest (registerRodRequest_touches slot id kind length count s))
  | unregisterRod slot => exact .answered (.inventoryRequest (unregisterRodRequest_touches slot s))
  | appendString id kind length count =>
    exact .answered (.inventoryRequest (appendStringRequest_touches id kind length count s))
  | setCarousel index => exact .answered (.inventoryRequest (setCarouselRequest_touches index s))
  | correctTally offset => exact .answered (.runningRequest (correctTallyRequest_touches offset s))
  | clearTally => exact .answered (.runningRequest (by simp [touches_iff, clearTallyRequest]))
  | readRack => exact readOut_within _ _ (fun s => okWith (rackBody s.inventory)) s
  | readString => exact readOut_within _ _ (fun s => okWith (stringBody s.inventory)) s
  | makeup => exact .answered (.runningRequest (cycleRequest_touches .makeup s))
  | breakout => exact .answered (.runningRequest (cycleRequest_touches .breakout s))
  | tripIn count => exact .answered (.runningRequest (tripRequest_touches .makeup count s))
  | tripOut count => exact .answered (.runningRequest (tripRequest_touches .breakout count s))
  | stopTrip => exact .answered (.runningRequest (stopTripRequest_touches s))
  | resume => exact .answered (.runningRequest (resumeRequest_touches s))
  | retryStep => exact .answered (.runningRequest (retryStepRequest_touches s))
  | abort => exact .answered (.runningRequest (abortRequest_touches s))
  | resolveTransit destination slot =>
    exact .answered (.runningRequest (resolveTransitRequest_touches destination slot s))
  | confirmRecovery => exact .answered (.runningRequest (confirmRecoveryRequest_touches s))
  | startPump pump => exact .answered (.runningRequest (startPumpRequest_touches pump s))
  | stopPump pump => exact .answered (.runningRequest (stopPumpRequest_touches pump s))
  | unlock => exact .answered (.runningRequest (unlockRequest_touches s))
  | confirmBled => exact .answered (.runningRequest (confirmBledRequest_touches s))
  | addAdditive kind units => exact .answered (.runningRequest (addAdditiveRequest_touches kind units s))
  | newHole => exact .answered (.runningRequest (newHoleRequest_touches s))
  | setLithology lithology => exact .answered (.runningRequest (setLithologyRequest_touches lithology s))
  | addRemark code => exact .answered (.runningRequest (addRemarkRequest_touches code s))
  | markWater => exact .answered (.runningRequest (markWaterRequest_touches s))
  | trim count => exact .answered (.runningRequest (trimRequest_touches count s))
  | fetchRecord form sequence => exact .answered (.roleRequest (fetchRecordRequest_touches form sequence s))
  | readCursor => exact readOut_within _ _ (fun s => okWith (be 4 s.log.cursor)) s
  | verify => exact .answered (.runningRequest (verifyRequest_touches s))
  | openJob number => exact .answered (.runningRequest (openJobRequest_touches number s))
  | suspendJob => exact .answered (.runningRequest (jobStateRequest_touches .opened .suspended s))
  | resumeJob => exact .answered (.runningRequest (jobStateRequest_touches .suspended .opened s))
  | closeJob => exact .answered (.runningRequest (closeJobRequest_touches s))
  | fetchSummary => exact .answered (.roleRequest (fetchSummaryRequest_touches s))
  | readMeters => exact readOut_within _ _ (fun s => okWith s.metersBody) s
  | addCharge amount => exact .answered (.runningRequest (addChargeRequest_touches amount s))
  | frameBegin => exact execFrameBegin_within s
  | arbitrationLoss => exact .next (.ite (fun _ => by simp [touches_iff, footprint]) fun _ => .refl _ s)
  | bitFault => exact execBitFault_within s
  | frameComplete => exact execFrameComplete_within s
  | presenceReceived source content =>
    exact .next (deliver_touches source (by simp [footprint, presenceBlocks]) (by simp [footprint, presenceBlocks])
      (presenceArrival_touches source content))
  | announcementReceived source content =>
    exact .next (deliver_touches source (by simp [footprint, announcementBlocks])
      (by simp [footprint, announcementBlocks]) (announcementArrival_touches source content))
  | holdSetReceived source reason =>
    exact .next (deliver_touches source (by simp [footprint, holdBlocks]) (by simp [footprint, holdBlocks])
      fun u => by simp [touches_iff, footprint, holdBlocks])
  | holdReleaseReceived source =>
    exact .next (deliver_touches source (by simp [footprint, sequencerBlocks]) (by simp [footprint, sequencerBlocks])
      fun u => .settle (by simp [touches_iff, sequencerBlocks]))
  | directiveReceived source directive =>
    exact .next (deliver_touches source (by simp [footprint]) (by simp [footprint, directiveBlocks])
      fun u => (routeDirective_touches source directive u).mono (List.subset_cons_self _ _))
  | frameReceiveError e => exact .next (.ite (fun _ => by simp [touches_iff, footprint]) fun _ => .refl _ s)
  | stationClash =>
    exact .next (.ite (fun _ => by simp [touches_iff, footprint, State.clash, State.frameEnded]) fun _ => .refl _ s)
  | idleIntervalComplete => exact execIdleIntervalComplete_within s
  | lineJammed => exact .next (.ite (fun _ => .refl _ s) fun _ => by simp [touches_iff, footprint])
  | sendPeriodExpiry => exact execSendPeriodExpiry_within s
  | slotStale st slot => exact execSlotStale_within st slot s
  | slotLost st slot => exact execSlotLost_within st slot s
  | holdSilenceExpiry st => exact execHoldSilenceExpiry_within st s
  | listenTimerExpiry => exact .next (.ite (fun _ => enterRunning_touches s) fun _ => .refl _ s)
  | timeBaseStep => exact execTimeBaseStep_within s
  | clockSecond => exact execClockSecond_within s
  | secondStep => exact execSecondStep_within s
  | stepTimerExpiry => exact execStepTimerExpiry_within s
  | pumpTimerExpiry pump => exact execPumpTimerExpiry_within pump s
  | balancePeriodExpiry => exact execBalancePeriodExpiry_within s
  | ropSampleExpiry => exact execRopSampleExpiry_within s
  | rotationWaitExpiry => exact execRotationWaitExpiry_within s
  | verifyScanStep => exact execVerifyScanStep_within s
  | handlerInputChange input level => exact execHandlerInputChange_within input level s
  | carouselPulse => exact .next (.ite (fun _ => by simp [touches_iff, footprint]) fun _ => .refl _ s)
  | pumpRunningChange pump level => exact execPumpRunningChange_within pump level s
  | returnPulse => exact .next (.ite (fun _ => by simp [touches_iff, footprint]) fun _ => .refl _ s)
  | strokePulse pump => exact .next (.ite (fun _ => by simp [touches_iff, footprint]) fun _ => .refl _ s)
  | waterPulse => exact .next (.ite (fun _ => by simp [touches_iff, footprint]) fun _ => .refl _ s)
  | rotationPulse => exact execRotationPulse_within s
  | encoderLineChange a b => exact execEncoderLineChange_within a b s
  | homeSwitchEdge closed => exact execHomeSwitchEdge_within closed s
  | headDriveChange level => exact execHeadDriveChange_within level s
  | pitLevelSample channel valid value => exact execPitLevelSample_within channel valid value s
  | pressureSample valid value => exact execPressureSample_within valid value s
  | dominantEdgeSeen => exact .next (.ite (fun _ => by simp [touches_iff, footprint]) fun _ => .refl _ s)

/-- A next state of a command keeps every block outside the footprint. -/
theorem exec_touches {i : Instr} {s t : State} (next : exec i s = .next t) : Touches (footprint i) s t := by
  obtain ⟨u, eq, h⟩ := exec_within i s
  rw [next] at eq
  cases eq
  exact h

/-- No command's footprint reaches the commands that wait. -/
theorem pending_not_in_footprint (i : Instr) : .pending ∉ footprint i := by
  cases i <;>
    simp [footprint, holdBlocks, sequencerBlocks, yieldBlocks, presenceBlocks, announcementBlocks, directiveBlocks,
      resetBlocks]

end Sys2Proof.Machine

namespace Sys2Proof

open Machine

/-- Settles O3: every command ends within its footprint, and the queue is in none. -/
theorem everyCommandHasANextState : Obligations.EveryCommandHasANextState := by
  intro c s
  obtain ⟨t, next, touches⟩ := exec_within c s
  exact ⟨t, next, touches .pending (pending_not_in_footprint c)⟩

end Sys2Proof
end

section
/-! SUPPORT. The balance unit along every step (R107 to R117): what a command can make of it, and what of B, the
residues and the ranges each of these keeps. -/

namespace Sys2Proof.Machine

/-- A step runs the front command of the queue, or lets one bit time pass. -/
theorem step_cases {s t : State} (next : step s = .next t) :
    (s.pending = [] ∧ t = s.idle) ∨
      ∃ c rest, s.pending = c :: rest ∧ exec c { s with pending := rest } = .next t := by
  unfold step at next
  split at next
  case h_1 empty => exact .inl ⟨empty, (Host.Outcome.next.inj next).symm⟩
  case h_2 c rest queue => exact .inr ⟨c, rest, queue, next⟩

/-- An idle step touches the time base, the ages and the queue. -/
theorem idle_touches (s : State) : Touches [.time, .peers, .holds, .pending] s s.idle := by
  unfold State.idle State.bitTime
  dsimp only
  (repeat' split) <;> simp [touches_iff, State.ages]

/-- An invariant of a state that does not look at the queue, the time base or the ages, and that every command
keeps, is kept by every step. -/
theorem step_keeps {P : State → Prop} (frame : ∀ {s t : State}, Touches [.time, .peers, .holds, .pending] s t → P s → P t)
    (command : ∀ {c : Instr} {s t : State}, P s → exec c s = .next t → P t) {s t : State} (h : P s)
    (next : step s = .next t) : P t := by
  rcases step_cases next with ⟨_, rfl⟩ | ⟨c, rest, _, run⟩
  · exact frame (idle_touches s) h
  · exact command (frame (by simp [touches_iff]) h) run

/-! ### What a command can make of the balance unit -/

/-- The balance unit after a command: as it was, at its reset values, with another level record, with one more water
pulse counted, or one period on. -/
inductive BalanceMove (b : Balance) : Balance → Prop
  | kept : BalanceMove b b
  | reset : BalanceMove b .atReset
  | sampled (pits : Vector PitRecord 4) : BalanceMove b { b with pits := pits }
  | watered (water : Nat) : BalanceMove b { b with water := water }
  | period (c : MudConfig) (owner : Option Station) (view : Option HeadAnnounce) :
      BalanceMove b (b.period c owner view)

@[simp] theorem State.pumpStopIfPermitted_bal (p : Pump) (s : State) : (s.pumpStopIfPermitted p).bal = s.bal := by
  simp

@[simp] theorem State.balancePeriod_bal (c : MudConfig) (s : State) :
    (s.balancePeriod c).bal = s.bal.period c (s.owner .head) (freshContent s.headView) := by
  unfold State.balancePeriod
  dsimp only
  split <;> simp

theorem execPitLevelSample_bal {channel : Fin 4} {valid : Bool} {value : BitVec 16} {s t : State}
    (next : execPitLevelSample channel valid value s = .next t) : BalanceMove s.bal t.bal := by
  cases next
  dsimp only
  (repeat' split)
  · simpa using .sampled _
  · exact .sampled _
  all_goals exact .kept

theorem execWaterPulse_bal {s t : State} (next : execWaterPulse s = .next t) : BalanceMove s.bal t.bal := by
  cases next
  split
  · exact .watered _
  · exact .kept

theorem execBalancePeriodExpiry_bal {s t : State} (next : execBalancePeriodExpiry s = .next t) :
    BalanceMove s.bal t.bal := by
  cases next
  (repeat' split)
  · simpa using .period _ _ _
  all_goals exact .kept

theorem State.powerOn_bal (valid : Bool) (s : State) : (s.powerOn valid).bal = .atReset := by
  unfold State.powerOn
  dsimp only
  split <;> rfl

/-- A command moves the balance unit in one of these ways. -/
theorem exec_bal {i : Instr} {s t : State} (next : exec i s = .next t) : BalanceMove s.bal t.bal := by
  by_cases touched : .bal ∈ footprint i
  · cases i with
    | powerOnReset kept => cases next; rw [State.powerOn_bal]; exact .reset
    | reset => cases next; exact .reset
    | pitLevelSample channel valid value => exact execPitLevelSample_bal next
    | waterPulse => exact execWaterPulse_bal next
    | balancePeriodExpiry => exact execBalancePeriodExpiry_bal next
    | _ =>
      simp [footprint, holdBlocks, sequencerBlocks, yieldBlocks, presenceBlocks, announcementBlocks,
        directiveBlocks] at touched
  · rw [exec_touches next .bal touched]
    exact .kept

end Sys2Proof.Machine
end

section
/-! SUPPORT. What a period of the balance unit keeps: B against the window, the residues, the ranges (R112 to R117),
and the statement that every step keeps them. -/

namespace Sys2Proof

/-- The sum of a list after one place is replaced. -/
theorem sum_set_int (l : List Int) {i : Nat} (x : Int) (inside : i < l.length) :
    (l.set i x).sum = l.sum - l[i] + x := by
  induction l generalizing i with
  | nil => exact absurd inside (Nat.not_lt_zero i)
  | cons y l ih =>
    cases i with
    | zero =>
      rw [List.set_cons_zero, List.sum_cons, List.sum_cons, List.getElem_cons_zero]
      omega
    | succ i =>
      rw [List.set_cons_succ, List.sum_cons, List.sum_cons, List.getElem_cons_succ, ih (Nat.lt_of_succ_lt_succ inside)]
      omega

/-- The sum over a table after one place is replaced. -/
theorem sum_map_put {α : Type} {n : Nat} (v : Vector α n) (i : Fin n) (x : α) (f : α → Int) :
    ((put v i x).toList.map f).sum = (v.toList.map f).sum - f v[i] + f x := by
  rw [put, Vector.toList_set, List.map_set, sum_set_int _ _ (by rw [List.length_map, Vector.length_toList]; exact i.isLt),
    List.getElem_map, Vector.getElem_toList]
  rfl

theorem mem_put {α : Type} {n : Nat} {v : Vector α n} {i : Fin n} {x y : α} (h : y ∈ (put v i x).toList) :
    y = x ∨ y ∈ v.toList := by
  rw [put, Vector.toList_set] at h
  exact (List.mem_or_eq_of_mem_set h).symm

namespace Machine

/-! ### B, the residues and the ranges along a period -/

theorem Balance.totalled_sumKept {b : Balance} (deadband : Nat) (e : Int) (h : b.sumKept) :
    (b.totalled deadband e).sumKept := by
  unfold Balance.totalled
  (repeat' split) <;> exact h

theorem Balance.judged_sumKept {b : Balance} (c : MudConfig) (h : b.sumKept) : (b.judged c).sumKept := by
  unfold Balance.judged
  split <;> exact h

theorem Balance.pushed_sumKept {b : Balance} (e : Int) (degraded : Bool) (h : b.sumKept) :
    (b.pushed e degraded).sumKept := by
  simp only [Balance.sumKept, Balance.pushed, sum_map_put]
  rw [h]

theorem Balance.period_sumKept {b : Balance} (c : MudConfig) (owner : Option Station) (view : Option HeadAnnounce)
    (h : b.sumKept) : (b.period c owner view).sumKept :=
  Balance.totalled_sumKept _ _ (Balance.judged_sumKept _ (Balance.pushed_sumKept _ _ h))

theorem Balance.totalled_residues (b : Balance) (deadband : Nat) (e : Int) :
    (b.totalled deadband e).steelResidue = b.steelResidue ∧ (b.totalled deadband e).holeResidue = b.holeResidue := by
  unfold Balance.totalled
  (repeat' split) <;> exact ⟨rfl, rfl⟩

theorem Balance.judged_residues (b : Balance) (c : MudConfig) :
    (b.judged c).steelResidue = b.steelResidue ∧ (b.judged c).holeResidue = b.holeResidue := by
  unfold Balance.judged
  split <;> exact ⟨rfl, rfl⟩

/-- What a period leaves as residues (R112). -/
theorem Balance.period_residues (b : Balance) (c : MudConfig) (owner : Option Station) (view : Option HeadAnnounce) :
    (b.period c owner view).steelResidue =
        (volumeWithResidue (b.depthStage owner view).steel c.steel b.steelResidue).2 ∧
      (b.period c owner view).holeResidue =
        (volumeWithResidue (b.depthStage owner view).hole c.hole b.holeResidue).2 := by
  unfold Balance.period
  dsimp only
  rw [(Balance.totalled_residues _ _ _).1, (Balance.totalled_residues _ _ _).2, (Balance.judged_residues _ _).1,
    (Balance.judged_residues _ _).2]
  exact ⟨rfl, rfl⟩

/-- The residue is the remainder of a division by 100 that rounds towards zero (R112). -/
theorem volumeWithResidue_residue (change : Int) (perMetre : Nat) (residue : Int) :
    (volumeWithResidue change perMetre residue).2 = (change * perMetre + residue).tmod 100 := by
  rw [Int.tmod_def, volumeWithResidue]

/-- The hole never shrinks between two expiries (R110, R127). -/
theorem Balance.depthStage_hole_nonneg (b : Balance) (owner : Option Station) (view : Option HeadAnnounce) :
    0 ≤ (b.depthStage owner view).hole := by
  unfold Balance.depthStage
  (repeat' split) <;> dsimp only <;> (try split) <;> omega

theorem Balance.period_residuesKept {b : Balance} (c : MudConfig) (owner : Option Station)
    (view : Option HeadAnnounce) (h : b.residuesKept) : (b.period c owner view).residuesKept := by
  obtain ⟨steelEq, holeEq⟩ := b.period_residues c owner view
  obtain ⟨_, nonneg, _⟩ := h
  have grown : 0 ≤ (b.depthStage owner view).hole * c.hole + b.holeResidue :=
    Int.add_nonneg (Int.mul_nonneg (b.depthStage_hole_nonneg owner view) (Int.natCast_nonneg _)) nonneg
  rw [Balance.residuesKept, steelEq, holeEq, volumeWithResidue_residue, volumeWithResidue_residue]
  refine ⟨?_, Int.tmod_nonneg _ grown, Int.tmod_lt_of_pos _ (by decide)⟩
  rw [Int.natAbs_tmod]
  exact Nat.mod_lt _ (by decide)

/-- An imbalance within its limit keeps the ranges (R113). -/
theorem Balance.pushed_inRange {b : Balance} {e : Int} (degraded : Bool) (small : e.natAbs ≤ 2000000000)
    (h : b.inRange) : ({ b.pushed e degraded with last := e } : Balance).inRange := by
  obtain ⟨gain, loss, _, window⟩ := h
  refine ⟨gain, loss, small, fun w at_ => ?_⟩
  rcases mem_put at_ with rfl | old
  · exact small
  · exact window w old

theorem Balance.judged_inRange {b : Balance} (c : MudConfig) (h : b.inRange) : (b.judged c).inRange := by
  unfold Balance.judged
  split <;> exact h

theorem Balance.totalled_inRange {b : Balance} (deadband : Nat) (e : Int) (h : b.inRange) :
    (b.totalled deadband e).inRange := by
  obtain ⟨gain, loss, last, window⟩ := h
  unfold Balance.totalled
  (repeat' split)
  · exact ⟨gain, loss, last, window⟩
  · exact ⟨satAdd_le _ _ _, loss, last, window⟩
  · exact ⟨gain, satAdd_le _ _ _, last, window⟩

theorem clampInt_small (v : Int) : (clampInt Config.imbalanceLimit v).natAbs ≤ 2000000000 := by
  simp only [clampInt, Config.imbalanceLimit]
  omega

theorem Balance.period_inRange {b : Balance} (c : MudConfig) (owner : Option Station) (view : Option HeadAnnounce)
    (h : b.inRange) : (b.period c owner view).inRange :=
  Balance.totalled_inRange _ _ (Balance.judged_inRange _ (Balance.pushed_inRange _ (clampInt_small _) h))

/-! ### Along a command -/

theorem BalanceMove.sumKept {b b' : Balance} (move : BalanceMove b b') (h : b.sumKept) : b'.sumKept := by
  cases move with
  | kept | sampled | watered => exact h
  | reset => decide
  | period c owner view => exact Balance.period_sumKept c owner view h

theorem BalanceMove.residuesKept {b b' : Balance} (move : BalanceMove b b') (h : b.residuesKept) :
    b'.residuesKept := by
  cases move with
  | kept | sampled | watered => exact h
  | reset => decide
  | period c owner view => exact Balance.period_residuesKept c owner view h

theorem BalanceMove.inRange {b b' : Balance} (move : BalanceMove b b') (h : b.inRange) : b'.inRange := by
  cases move with
  | kept | sampled | watered => exact h
  | reset => decide
  | period c owner view => exact Balance.period_inRange c owner view h

/-- A step moves the balance unit as a command does. -/
theorem step_bal {s t : State} (next : step s = .next t) : BalanceMove s.bal t.bal := by
  rcases step_cases next with ⟨_, rfl⟩ | ⟨c, rest, _, run⟩
  · rw [idle_touches s .bal (by simp)]
    exact .kept
  · have move := exec_bal run
    exact move

end Machine

open Machine

/-! ### The obligation -/

/-- Settles O53: every step moves the balance unit in one of the ways of `BalanceMove`, each of which keeps the three
invariants. -/
theorem balanceStaysConsistent : Obligations.BalanceStaysConsistent := by
  intro s t next
  have move := step_bal next
  exact ⟨move.sumKept, move.residuesKept, move.inRange⟩

end Sys2Proof
end

section
/-! SUPPORT. The lock of circulation control along every step (R91, R94, R95): what a pump's entry into a state keeps
of it, and that every command stays within that. -/

namespace Sys2Proof.Machine

/-! ### The two pumps -/

/-- The other of the two pumps. -/
def Pump.other : Pump → Pump
  | .one => .two
  | .two => .one

theorem Circulation.anyPump_split (c : Circulation) (kind : PumpState → Bool) (p : Pump) :
    c.anyPump kind = (kind (c.pump p).state || kind (c.pump (Pump.other p)).state) := by
  cases p
  · rfl
  · exact Bool.or_comm _ _

@[simp] theorem Circulation.setPump_pump_same (c : Circulation) (p : Pump) (r : PumpRecord) :
    (c.setPump p r).pump p = r := by
  cases p <;> rfl

@[simp] theorem Circulation.setPump_pump_other (c : Circulation) (p : Pump) (r : PumpRecord) :
    (c.setPump p r).pump (Pump.other p) = c.pump (Pump.other p) := by
  cases p <;> rfl

@[simp] theorem Circulation.setPump_state (c : Circulation) (p : Pump) (r : PumpRecord) :
    (c.setPump p r).state = c.state := by
  cases p <;> rfl

@[simp] theorem Circulation.pumpEntered_pump (c : Circulation) (new : PumpState) (p : Pump) :
    (c.pumpEntered new).pump p = c.pump p := by
  unfold Circulation.pumpEntered Circulation.bledDown
  (repeat' split) <;> cases p <;> rfl

@[simp] theorem State.pumpTo_circ (p : Pump) (new : PumpState) (s : State) :
    (s.pumpTo p new).circ = (s.circ.setPump p ((s.circ.pump p).entered new)).pumpEntered new := by
  simp [State.pumpTo]

/-- STARTING and RUNNING are engaged. -/
theorem PumpState.engaged_of_permitted {x : PumpState} (h : x.permitted = true) : x.engaged = true := by
  cases x <;> trivial

theorem PumpState.not_permitted_of_not_engaged {x : PumpState} (h : x.engaged = false) : x.permitted = false := by
  cases x <;> trivial

/-- A pump that is neither permitted nor STOPPING is not engaged. -/
theorem PumpState.engaged_eq (x : PumpState) : x.engaged = (x.permitted || x == .stopping) := by
  cases x <;> rfl

/-! ### The lock and one pump's entry -/

/-- A pump that is STARTING or RUNNING is so in PRIMING or CIRCULATING. -/
theorem Circulation.lockSafe_flowing {c : Circulation} {p : Pump} (safe : c.lockSafe)
    (permitted : (c.pump p).state.permitted = true) : c.state = .priming ∨ c.state = .circulating := by
  obtain ⟨closed, bleeding⟩ := safe
  have somePermitted : c.anyPump PumpState.permitted = true := by rw [c.anyPump_split _ p, permitted]; rfl
  have someEngaged : c.anyPump PumpState.engaged = true := by
    rw [c.anyPump_split _ p, PumpState.engaged_of_permitted permitted]; rfl
  cases state : c.state with
  | stopped => rw [closed (.inl state)] at someEngaged; cases someEngaged
  | locked => rw [closed (.inr state)] at someEngaged; cases someEngaged
  | bleeding => rw [bleeding state] at somePermitted; cases somePermitted
  | priming => exact .inl rfl
  | circulating => exact .inr rfl

/-- The end of a bleed-down leaves no pump engaged, if none was permitted. -/
theorem Circulation.bledDown_lockSafe {c : Circulation} (bleeding : c.state = .bleeding)
    (none : c.anyPump PumpState.permitted = false) : c.bledDown.lockSafe := by
  unfold Circulation.bledDown
  split
  case isTrue ended =>
    refine ⟨fun _ => ?_, fun h => nomatch h⟩
    simp only [Circulation.anyPump, PumpState.engaged_eq, Bool.and_eq_true, Bool.not_eq_true', Bool.or_eq_false_iff]
      at none ended ⊢
    obtain ⟨_, one, two⟩ := ended
    exact ⟨⟨none.1, one⟩, none.2, two⟩
  case isFalse => exact ⟨fun h => by simp [bleeding] at h, fun _ => none⟩

/-- What a pump's record must be for the circulation state to follow it safely (R94). -/
theorem Circulation.pumpEntered_lockSafe {c : Circulation} {new : PumpState}
    (stopped : c.state = .stopped → new = .starting ∨ c.anyPump PumpState.engaged = false)
    (locked : c.state = .locked → c.anyPump PumpState.engaged = false)
    (bleeding : c.state = .bleeding → new = .starting ∨ c.anyPump PumpState.permitted = false) :
    (c.pumpEntered new).lockSafe := by
  unfold Circulation.pumpEntered
  split
  case h_1 state =>
    split
    case isTrue => exact ⟨fun h => by simp at h, fun h => nomatch h⟩
    case isFalse other =>
      exact ⟨fun _ => (stopped state).resolve_left other, fun h => by simp [state] at h⟩
  case h_2 state => exact ⟨fun _ => locked state, fun h => by simp [state] at h⟩
  case h_3 state =>
    split
    case isTrue => exact ⟨fun h => by simp [state] at h, fun h => by simp [state] at h⟩
    case isFalse none => exact ⟨fun h => by simp at h, fun _ => by simpa [Circulation.anyPump] using none⟩
  case h_4 state =>
    split
    case isTrue => exact ⟨fun h => by simp [state] at h, fun h => by simp [state] at h⟩
    case isFalse none => exact ⟨fun h => by simp at h, fun _ => by simpa [Circulation.anyPump] using none⟩
  case h_5 state =>
    split
    case isTrue => exact ⟨fun h => by simp at h, fun h => nomatch h⟩
    case isFalse other => exact Circulation.bledDown_lockSafe state ((bleeding state).resolve_left other)

/-- The entries that keep the lock: into a state that is not engaged, into STARTING unless LOCKED, and into any state
from STARTING or RUNNING. -/
def Circulation.mayEnter (c : Circulation) (p : Pump) (new : PumpState) : Prop :=
  new.engaged = false ∨ (new = .starting ∧ c.state ≠ .locked) ∨ (c.pump p).state.permitted = true

theorem Circulation.setPump_anyPump (c : Circulation) (p : Pump) (r : PumpRecord) (kind : PumpState → Bool) :
    (c.setPump p r).anyPump kind = (kind r.state || kind (c.pump (Pump.other p)).state) := by
  rw [Circulation.anyPump_split _ kind p, Circulation.setPump_pump_same, Circulation.setPump_pump_other]

theorem State.pumpTo_lockSafe {s : State} {p : Pump} {new : PumpState} (safe : s.circ.lockSafe)
    (may : s.circ.mayEnter p new) : (s.pumpTo p new).circ.lockSafe := by
  obtain ⟨closed, bleeding⟩ := safe
  have otherEngaged (h : s.circ.anyPump PumpState.engaged = false) :
      (s.circ.pump (Pump.other p)).state.engaged = false := by
    rw [Circulation.anyPump_split _ _ p, Bool.or_eq_false_iff] at h
    exact h.2
  have otherPermitted (h : s.circ.anyPump PumpState.permitted = false) :
      (s.circ.pump (Pump.other p)).state.permitted = false := by
    rw [Circulation.anyPump_split _ _ p, Bool.or_eq_false_iff] at h
    exact h.2
  have flowing : (s.circ.pump p).state.permitted = true → s.circ.state = .priming ∨ s.circ.state = .circulating :=
    Circulation.lockSafe_flowing ⟨closed, bleeding⟩
  rw [State.pumpTo_circ]
  apply Circulation.pumpEntered_lockSafe <;>
    simp only [Circulation.setPump_state, Circulation.setPump_anyPump, PumpRecord.entered, Bool.or_eq_false_iff] <;>
    intro state
  case stopped =>
    rcases may with out | ⟨starting, _⟩ | permitted
    · exact .inr ⟨out, otherEngaged (closed (.inl state))⟩
    · exact .inl starting
    · rcases flowing permitted with h | h <;> rw [state] at h <;> cases h
  case locked =>
    rcases may with out | ⟨_, unlocked⟩ | permitted
    · exact ⟨out, otherEngaged (closed (.inr state))⟩
    · exact absurd state unlocked
    · rcases flowing permitted with h | h <;> rw [state] at h <;> cases h
  case bleeding =>
    rcases may with out | ⟨starting, _⟩ | permitted
    · exact .inr ⟨PumpState.not_permitted_of_not_engaged out, otherPermitted (bleeding state)⟩
    · exact .inl starting
    · rcases flowing permitted with h | h <;> rw [state] at h <;> cases h

end Sys2Proof.Machine
end

section
/-! SUPPORT. Every operation of circulation control keeps the lock, and so does every command. -/

namespace Sys2Proof.Machine

/-- What holds of a state holds after a request of an acting block, if carrying it out keeps it. -/
theorem runningRequest_keeps {P : State → Prop} {s : State} {r : Role} {f : State → Answered} (h : P s)
    (carried : s.acts r = true → P (f s).2) : P (s.runningRequest r f).2 := by
  rcases s.runningRequest_cases r f with same | ⟨acts, eq⟩
  · rwa [same]
  · rw [eq]; exact carried acts

theorem roleRequest_keeps {P : State → Prop} {s : State} {r : Role} {f : State → Answered} (h : P s)
    (carried : s.active r = true → P (f s).2) : P (s.roleRequest r f).2 := by
  rcases s.roleRequest_cases r f with same | ⟨active, eq⟩
  · rwa [same]
  · rw [eq]; exact carried active

/-! ### Arrivals in parts -/

/-- What a received frame comes to: nothing without reception, a clash under the own number, or its delivery. -/
theorem State.deliver_cases (source : Station) (s : State) (f : State → State) :
    s.deliver source f = s ∨ s.deliver source f = s.frameEnded.clash ∨ s.deliver source f = f s.frameEnded := by
  unfold State.deliver
  split
  · split
    · exact .inr (.inl rfl)
    · exact .inr (.inr rfl)
  · exact .inl rfl

/-- The yield decision that a frame of a station brings (R12). -/
def State.yieldTo (st : Station) (claimed : Role → Bool) (s : State) : State :=
  if s.mustYieldTo st then s.yieldRoles claimed else s

theorem State.announcementArrival_eq (st : Station) (a : Announcement) (s : State) :
    s.announcementArrival st a =
      let stored := s.mapPeer st (·.storeAnnouncement a)
      let yielded := stored.yieldTo st fun r => r == announcedRole a && !stored.peers[st].yieldsRole r
      (if yielded.owner (announcedRole a) = some st then yielded.readArrival a else yielded).settle :=
  rfl

theorem State.presenceArrival_eq (st : Station) (p : Presence) (s : State) :
    s.presenceArrival st p =
      let yielded := (s.mapPeer st (·.storePresence p)).yieldTo st fun r => p.held.has r && !p.yielded.has r
      (if yielded.station = some st then yielded
        else yielded.holdReport st (p.holding.map HoldReason.bits)).settle :=
  rfl

/-- An announcement arrival is a storing, yields, a reading or none, and a settling: what each of these keeps, the
arrival keeps. -/
theorem State.announcementArrival_rel {R : State → State → Prop} (trans : ∀ {s t u}, R s t → R t u → R s u)
    (st : Station) (a : Announcement) (stored : ∀ u f, R u (u.mapPeer st f)) (yielded : ∀ u f, R u (u.yieldTo st f))
    (read : ∀ u, R u (u.readArrival a)) (settled : ∀ u : State, R u u.settle) (s : State) :
    R s (s.announcementArrival st a) := by
  rw [State.announcementArrival_eq]
  dsimp only
  split
  · exact trans (trans (stored s _) (yielded _ _)) (trans (read _) (settled _))
  · exact trans (trans (stored s _) (yielded _ _)) (settled _)

/-- A PRESENCE arrival likewise, with a hold report or none. -/
theorem State.presenceArrival_rel {R : State → State → Prop} (trans : ∀ {s t u}, R s t → R t u → R s u)
    (st : Station) (p : Presence) (stored : ∀ u f, R u (u.mapPeer st f)) (yielded : ∀ u f, R u (u.yieldTo st f))
    (reported : ∀ u reason, R u (u.holdReport st reason)) (settled : ∀ u : State, R u u.settle) (s : State) :
    R s (s.presenceArrival st p) := by
  rw [State.presenceArrival_eq]
  dsimp only
  split
  · exact trans (trans (stored s _) (yielded _ _)) (settled _)
  · exact trans (trans (stored s _) (yielded _ _)) (trans (reported _ _) (settled _))

@[simp] theorem State.yieldTo_circ (st : Station) (claimed : Role → Bool) (s : State) :
    (s.yieldTo st claimed).circ = s.circ := by
  unfold State.yieldTo
  split <;> simp

/-- What FRAME_COMPLETE comes to: nothing outside OWNER, or the frame in transmission taken off its place and handed
on (R31). -/
theorem execFrameComplete_cases {s t : State} (next : execFrameComplete s = .next t) :
    t = s ∨ ∃ (own : Station) (f : Frame) (u : State), s.link.line = .owner ∧ s.link.sending = some f ∧
      s.station = some own ∧
      u = { s with link := { s.link.disposed f with line := .busy, receiving := false, faultCount := 0 } } ∧
      t = u.completedFrame own f := by
  unfold execFrameComplete at next
  have eq := Host.Outcome.next.inj next
  split at eq
  case h_1 f own line sending station => exact .inr ⟨own, f, _, line, sending, station, rfl, eq.symm⟩
  case h_2 => exact .inl eq.symm

/-! ### Pump operations -/

theorem State.pumpTo_pump_state (p : Pump) (new : PumpState) (s : State) :
    ((s.pumpTo p new).circ.pump p).state = new := by
  simp [PumpRecord.entered]

theorem State.pumpStarting_lockSafe {s : State} {p : Pump} (safe : s.circ.lockSafe) (unlocked : s.circ.state ≠ .locked) :
    (s.pumpStarting p).circ.lockSafe := by
  have started : (s.pumpTo p .starting).circ.lockSafe := State.pumpTo_lockSafe safe (.inr (.inl ⟨rfl, unlocked⟩))
  unfold State.pumpStarting
  split
  · exact State.pumpTo_lockSafe started (.inr (.inr (by rw [State.pumpTo_pump_state]; rfl)))
  · exact started

theorem State.pumpStopping_lockSafe {s : State} {p : Pump} (safe : s.circ.lockSafe)
    (permitted : (s.circ.pump p).state.permitted = true) : (s.pumpStopping p).circ.lockSafe := by
  have stopping : (s.pumpTo p .stopping).circ.lockSafe := State.pumpTo_lockSafe safe (.inr (.inr permitted))
  unfold State.pumpStopping
  split
  · exact stopping
  · exact State.pumpTo_lockSafe stopping (.inl rfl)

theorem State.pumpStopIfPermitted_lockSafe {s : State} {p : Pump} (safe : s.circ.lockSafe) :
    (s.pumpStopIfPermitted p).circ.lockSafe := by
  unfold State.pumpStopIfPermitted
  split
  case isTrue permitted => exact State.pumpStopping_lockSafe safe permitted
  case isFalse => exact safe

theorem startPumpRequest_lockSafe (pump : Byte) {s : State} (safe : s.circ.lockSafe) :
    (startPumpRequest pump s).2.circ.lockSafe := by
  unfold startPumpRequest
  (repeat' split) <;> first | exact safe | exact State.pumpStarting_lockSafe safe ‹_›

theorem stopPumpRequest_lockSafe (pump : Byte) {s : State} (safe : s.circ.lockSafe) :
    (stopPumpRequest pump s).2.circ.lockSafe := by
  unfold stopPumpRequest
  split
  · exact safe
  · split
    case h_1 state => exact State.pumpStopping_lockSafe safe (by rw [state]; rfl)
    case h_2 state => exact State.pumpStopping_lockSafe safe (by rw [state]; rfl)
    case h_3 => exact State.pumpTo_lockSafe safe (.inl rfl)
    all_goals exact safe

/-- Leaving LOCKED, or BLEEDING with no pump STOPPING, for STOPPED. -/
theorem Circulation.toStopped_lockSafe {c : Circulation} (idle : c.anyPump PumpState.engaged = false) :
    ({ c with state := .stopped } : Circulation).lockSafe :=
  ⟨fun _ => idle, fun h => nomatch h⟩

theorem unlockRequest_lockSafe {s : State} (safe : s.circ.lockSafe) : (unlockRequest s).2.circ.lockSafe := by
  unfold unlockRequest
  split
  · exact safe
  · split
    · exact safe
    case isFalse.isFalse locked => exact Circulation.toStopped_lockSafe (safe.1 (.inr (Decidable.not_not.mp locked)))

theorem Circulation.anyPump_engaged (c : Circulation) :
    c.anyPump PumpState.engaged = (c.anyPump PumpState.permitted || c.anyPump (· == .stopping)) := by
  simp only [Circulation.anyPump, PumpState.engaged_eq]
  ac_rfl

theorem confirmBledRequest_lockSafe {s : State} (safe : s.circ.lockSafe) :
    (confirmBledRequest s).2.circ.lockSafe := by
  unfold confirmBledRequest
  split
  · exact safe
  case isFalse bled =>
    obtain ⟨state, stopping⟩ := not_or.mp bled
    refine Circulation.toStopped_lockSafe ?_
    rw [Circulation.anyPump_engaged, safe.2 (Decidable.not_not.mp state), Bool.eq_false_iff.mpr stopping]
    rfl

theorem addAdditiveRequest_lockSafe (kind : Byte) (units : BitVec 16) {s : State} (safe : s.circ.lockSafe) :
    (addAdditiveRequest kind units s).2.circ.lockSafe := by
  unfold addAdditiveRequest
  (repeat' split) <;> exact safe

/-! ### Samples, periods and arrivals -/

theorem Circulation.bleedSample_lockSafe {c : Circulation} (bled : Bool) (safe : c.lockSafe) :
    (c.bleedSample bled).lockSafe := by
  unfold Circulation.bleedSample
  split
  case isTrue bleeding => exact Circulation.bledDown_lockSafe bleeding (safe.2 bleeding)
  case isFalse => exact safe

theorem Circulation.pressed_lockSafe {c : Circulation} (sound : Bool) (value : Nat) (safe : c.lockSafe) :
    (c.pressed sound value).lockSafe := by
  unfold Circulation.pressed
  split <;> exact safe

theorem Circulation.judgeReturns_lockSafe {c : Circulation} (threshold : Nat) (safe : c.lockSafe) :
    (c.judgeReturns threshold).lockSafe := by
  unfold Circulation.judgeReturns
  split
  case h_1 => exact ⟨fun h => by simp at h, fun h => nomatch h⟩
  all_goals exact safe

theorem Circulation.heardHandler_lockSafe {c : Circulation} (stringOpen : Bool) (safe : c.lockSafe) :
    (c.heardHandler stringOpen).lockSafe := by
  unfold Circulation.heardHandler
  split
  case h_1 stopped =>
    split
    · exact ⟨fun _ => safe.1 (.inl stopped), fun h => nomatch h⟩
    · exact safe
  case h_2 locked =>
    split
    · exact safe
    · exact Circulation.toStopped_lockSafe (safe.1 (.inr locked))
  all_goals exact safe

theorem PumpRecord.tick_state (r : PumpRecord) : r.tick.state = r.state := by
  unfold PumpRecord.tick
  (repeat' split) <;> rfl

theorem Circulation.tick_lockSafe {c : Circulation} (safe : c.lockSafe) : c.tick.lockSafe := by
  simpa only [Circulation.lockSafe, Circulation.anyPump, Circulation.tick, PumpRecord.tick_state] using safe

theorem State.circulationPeriod_lockSafe (c : MudConfig) {s : State} (safe : s.circ.lockSafe) :
    (s.circulationPeriod c).circ.lockSafe := by
  have judged := Circulation.judgeReturns_lockSafe c.returnsThreshold safe
  simp only [State.circulationPeriod, State.raiseIf_frame]
  exact judged

/-- An arrival reaches circulation control as a HANDLER arrival alone (R95). -/
theorem State.readArrival_circ (s : State) (a : Announcement) :
    (s.readArrival a).circ = s.circ ∨ ∃ stringOpen, (s.readArrival a).circ = s.circ.heardHandler stringOpen := by
  cases a with
  | handler a =>
    by_cases acts : s.acts .mud = true
    · refine .inr ⟨a.stringOpen, ?_⟩
      simp only [State.readArrival, if_pos acts, State.asHead, State.meterHandler_frame]
      (repeat' split) <;> simp
    · refine .inl ?_
      simp only [State.readArrival, if_neg acts, State.asHead, State.meterHandler_frame]
      (repeat' split) <;> simp
  | mud a =>
    refine .inl ?_
    simp only [State.readArrival, State.meterMud_frame]
    split <;> simp
  | head a => exact .inl (by simp [State.readArrival])
  | cab a => exact .inl rfl

theorem State.announcementArrival_circ (st : Station) (a : Announcement) (s : State) :
    (s.announcementArrival st a).circ = s.circ ∨
      ∃ stringOpen, (s.announcementArrival st a).circ = s.circ.heardHandler stringOpen := by
  rw [State.announcementArrival_eq, settle_touches _ .circ (by simp [sequencerBlocks])]
  split
  · simpa using State.readArrival_circ ((s.mapPeer st (·.storeAnnouncement a)).yieldTo st _) a
  · exact .inl (by simp)

theorem State.announcementArrival_lockSafe (st : Station) (a : Announcement) {s : State} (safe : s.circ.lockSafe) :
    (s.announcementArrival st a).circ.lockSafe := by
  rcases State.announcementArrival_circ st a s with h | ⟨o, h⟩ <;> rw [h]
  · exact safe
  · exact Circulation.heardHandler_lockSafe o safe

theorem State.routeDirective_lockSafe (source : Station) (d : Directive) {s : State} (safe : s.circ.lockSafe) :
    (s.routeDirective source d).circ.lockSafe := by
  have carried (r : Role) : (s.carryOut r d).2.circ.lockSafe := by
    refine runningRequest_keeps (P := fun u => u.circ.lockSafe) safe fun _ => ?_
    split
    · exact safe
    case h_2 c _ =>
      cases c with
      | startPump => exact startPumpRequest_lockSafe _ safe
      | stopPump => exact stopPumpRequest_lockSafe _ safe
      | setLithology => rw [directiveRequest, setLithologyRequest_touches _ s .circ (by simp)]; exact safe
      | addRemark => rw [directiveRequest, addRemarkRequest_touches _ s .circ (by simp)]; exact safe
      | markWater => exact safe
      | stopTrip => exact safe
  unfold State.routeDirective
  (repeat' split)
  · exact safe
  · simpa [State.takeDirective] using carried _
  · exact safe

theorem State.completedFrame_lockSafe (own : Station) (f : Frame) {s : State} (safe : s.circ.lockSafe) :
    (s.completedFrame own f).circ.lockSafe := by
  cases f with
  | holdSet | holdRelease => exact safe
  | directive d => exact State.routeDirective_lockSafe own d safe
  | announce a => exact State.announcementArrival_lockSafe own a safe
  | presence p =>
    simp only [State.completedFrame, State.presenceArrival_frame]
    exact safe

theorem State.pumpsAtEntry_lockSafe {s : State} (safe : s.circ.lockSafe) : s.pumpsAtEntry.circ.lockSafe := by
  have failed (p : Pump) (turning : Bool) (u : State) (h : u.circ.lockSafe) :
      (if turning then u.pumpTo p .failed else u).circ.lockSafe := by
    split
    · exact State.pumpTo_lockSafe h (.inl rfl)
    · exact h
  exact failed .two _ _ (failed .one _ _ safe)

theorem State.enterRunning_lockSafe {s : State} (safe : s.circ.lockSafe) : s.enterRunning.circ.lockSafe := by
  have entry (u : State) (h : u.circ = s.circ) : u.mudEntry.circ.lockSafe := by
    unfold State.mudEntry
    split
    · exact State.pumpsAtEntry_lockSafe (h ▸ safe)
    · exact h ▸ safe
  have after (u : State) : u.headEntry.cabEntry.allDue.circ = u.circ := by
    rw [allDue_touches _ .circ (by simp), cabEntry_touches _ .circ (by simp), headEntry_touches _ .circ (by simp)]
  rw [State.enterRunning, after]
  exact entry _ (by rw [handlerEntry_touches _ .circ (by simp [holdBlocks])])

/-! ### Every command -/

theorem execPumpRunningChange_lockSafe {p : Pump} {level : Level} {s t : State} (safe : s.circ.lockSafe)
    (next : execPumpRunningChange p level s = .next t) : t.circ.lockSafe := by
  cases next
  split
  · split
    case h_1 new found =>
      refine State.pumpTo_lockSafe (by exact safe) ?_
      unfold pumpOnInput at found
      split at found
      case h_1 => cases found; exact .inl rfl
      case h_2 state _ => cases found; exact .inr (.inr (by rw [state]; rfl))
      case h_3 => cases found; exact .inl rfl
      case h_4 => cases found; exact .inl rfl
      case h_5 => cases found
    case h_2 => exact safe
  · exact safe

theorem execPitLevelSample_lockSafe {channel : Fin 4} {valid : Bool} {value : BitVec 16} {s t : State}
    (safe : s.circ.lockSafe) (next : execPitLevelSample channel valid value s = .next t) : t.circ.lockSafe := by
  cases next
  dsimp only
  (repeat' split)
  case h_1.isTrue.isTrue =>
    exact State.pumpStopIfPermitted_lockSafe (State.pumpStopIfPermitted_lockSafe safe)
  all_goals exact safe

theorem Circulation.atReset_lockSafe : Circulation.atReset.lockSafe := by decide

/-- Every command keeps the lock. -/
theorem exec_lockSafe {i : Instr} {s t : State} (safe : s.circ.lockSafe) (next : exec i s = .next t) :
    t.circ.lockSafe := by
  by_cases touched : .circ ∈ footprint i
  · have request {r : Role} {f : State → Answered} (h : (f s).2.circ.lockSafe) :
        (s.runningRequest r f).2.circ.lockSafe :=
      runningRequest_keeps (P := fun u => u.circ.lockSafe) safe fun _ => h
    cases i with
    | powerOnReset kept =>
      cases next
      unfold State.powerOn
      dsimp only
      split <;> exact Circulation.atReset_lockSafe
    | reset => cases next; exact Circulation.atReset_lockSafe
    | startPump pump => cases next; exact request (startPumpRequest_lockSafe pump safe)
    | stopPump pump => cases next; exact request (stopPumpRequest_lockSafe pump safe)
    | unlock => cases next; exact request (unlockRequest_lockSafe safe)
    | confirmBled => cases next; exact request (confirmBledRequest_lockSafe safe)
    | addAdditive kind units => cases next; exact request (addAdditiveRequest_lockSafe kind units safe)
    | frameComplete =>
      rcases execFrameComplete_cases next with rfl | ⟨own, f, u, _, _, _, rfl, rfl⟩
      · exact safe
      · exact State.completedFrame_lockSafe own f safe
    | announcementReceived source content =>
      cases next
      rcases s.deliver_cases source _ with same | clash | delivered
      · rw [same]; exact safe
      · rw [clash]; exact safe
      · rw [delivered]; exact State.announcementArrival_lockSafe source content safe
    | directiveReceived source directive =>
      cases next
      rcases s.deliver_cases source _ with same | clash | delivered
      · rw [same]; exact safe
      · rw [clash]; exact safe
      · rw [delivered]; exact State.routeDirective_lockSafe source directive safe
    | listenTimerExpiry =>
      cases next
      split
      · exact State.enterRunning_lockSafe safe
      · exact safe
    | timeBaseStep =>
      cases next
      (repeat' split) <;> first | exact safe | exact Circulation.tick_lockSafe safe
    | pumpTimerExpiry p =>
      cases next
      split
      · exact State.pumpTo_lockSafe safe (.inl rfl)
      · exact safe
    | balancePeriodExpiry =>
      cases next
      (repeat' split)
      case h_1 c _ =>
        simpa only [State.balancePeriod_frame] using State.circulationPeriod_lockSafe c (by exact safe)
      all_goals exact safe
    | pumpRunningChange p level => exact execPumpRunningChange_lockSafe safe next
    | returnPulse => cases next; split <;> exact safe
    | strokePulse p => cases next; cases p <;> split <;> exact safe
    | pressureSample valid value =>
      cases next
      (repeat' split)
      case h_1 => exact Circulation.bleedSample_lockSafe _ (Circulation.pressed_lockSafe _ _ safe)
      all_goals exact safe
    | pitLevelSample channel valid value => exact execPitLevelSample_lockSafe safe next
    | _ =>
      simp [footprint, holdBlocks, sequencerBlocks, yieldBlocks, presenceBlocks] at touched
  · rw [exec_touches next .circ touched]
    exact safe

end Sys2Proof.Machine

namespace Sys2Proof

open Machine

/-! ### The obligation -/

/-- Settles O54: the queue, the time base and the ages leave circulation control alone, and every command keeps the
lock. -/
theorem lockedPumpsStayOff : Obligations.LockedPumpsStayOff := by
  intro s t safe next
  refine step_keeps (P := fun u => u.circ.lockSafe) (fun touches h => ?_) exec_lockSafe safe next
  rw [touches .circ (by simp)]
  exact h

end Sys2Proof
end

section
/-! SUPPORT. The job record along every step (R155 to R161): the job total against the other accumulators, their
limit, and the residues. -/

namespace Sys2Proof

/-- The sum over a list after one place is replaced, in natural numbers. -/
theorem sum_set_add {l : List Nat} {i : Nat} (x : Nat) (h : i < l.length) : (l.set i x).sum + l[i] = l.sum + x := by
  induction l generalizing i with
  | nil => simp at h
  | cons a l ih =>
    cases i with
    | zero => simp; omega
    | succ i => simpa [Nat.add_assoc] using ih (by simpa using h)

namespace Machine

/-- What a change of the job record keeps of its two invariants. -/
def JobKeeps (j j' : JobRecord) : Prop :=
  (j.totalKept → j'.totalKept) ∧ (j.residuesKept → j'.residuesKept)

theorem JobKeeps.refl (j : JobRecord) : JobKeeps j j := ⟨id, id⟩

theorem JobKeeps.trans {j j' j'' : JobRecord} (a : JobKeeps j j') (b : JobKeeps j' j'') : JobKeeps j j'' :=
  ⟨b.1 ∘ a.1, b.2 ∘ a.2⟩

/-- The two invariants look at accumulators and residues alone. -/
theorem JobKeeps.of_same {j j' : JobRecord} (accumulators : j'.accumulators = j.accumulators)
    (time : j'.timeResidues = j.timeResidues) (band : j'.bandResidues = j.bandResidues) : JobKeeps j j' := by
  simp only [JobKeeps, JobRecord.totalKept, JobRecord.residuesKept, JobRecord.total, accumulators, time, band, imp_self,
    and_self]

/-- Accumulators and residues all zero. -/
theorem JobKeeps.of_zero {j j' : JobRecord} (accumulators : j'.accumulators = Vector.replicate 18 .zero)
    (time : j'.timeResidues = Vector.replicate 7 0) (band : j'.bandResidues = Vector.replicate 4 0) :
    JobKeeps j j' := by
  have total : JobRecord.initial.totalKept := by decide
  have residues : JobRecord.initial.residuesKept := by decide
  simp only [JobKeeps, JobRecord.totalKept, JobRecord.residuesKept, JobRecord.total, accumulators, time, band]
  exact ⟨fun _ => total, fun _ => residues⟩

/-! ### Charges (R160) -/

/-- The seventeen accumulators beside the total, after the two of a charge have changed. -/
theorem JobRecord.mapCharge_accounts (j : JobRecord) (i : Account) (f : Accumulator → Accumulator) :
    (j.mapCharge i f).accumulators.toList.take 17 =
      (j.accumulators.toList.take 17).set i.val (f j.accumulators[i.castSucc]) := by
  simp only [JobRecord.mapCharge, put, Vector.toList_set, List.take_set]
  refine List.set_eq_of_length_le ?_
  rw [List.length_set]
  exact List.length_take_le 17 _

theorem JobRecord.mapCharge_total (j : JobRecord) (i : Account) (f : Accumulator → Accumulator) :
    (j.mapCharge i f).total = f j.total :=
  put_get_same _ 17 _

theorem JobRecord.mem_mapCharge {j : JobRecord} {i : Account} {f : Accumulator → Accumulator} {a : Accumulator}
    (h : a ∈ (j.mapCharge i f).accumulators.toList) :
    a = f j.accumulators[i.castSucc] ∨ a = f j.total ∨ a ∈ j.accumulators.toList := by
  rcases mem_put h with total | rest
  · exact .inr (.inl total)
  · exact (mem_put rest).imp_right .inr

theorem JobRecord.accounts_sum (j : JobRecord) (i : Account) (x : Accumulator) :
    (((j.accumulators.toList.take 17).set i.val x).map (·.mills)).sum + j.accumulators[i.castSucc].mills =
      ((j.accumulators.toList.take 17).map (·.mills)).sum + x.mills := by
  have place : i.val < ((j.accumulators.toList.take 17).map (·.mills)).length := by simp
  have at_ : ((j.accumulators.toList.take 17).map (·.mills))[i.val] = j.accumulators[i.castSucc].mills := by simp
  rw [List.map_set, ← at_]
  exact sum_set_add x.mills place

/-- A charge that can be made keeps the total the sum of the others (R160). -/
theorem JobRecord.charged_totalKept {j : JobRecord} {i : Account} {mills : Nat} (can : j.canCharge i mills = true)
    (h : j.totalKept) : (j.mapCharge i (·.charged mills)).totalKept := by
  obtain ⟨sum, limit⟩ := h
  simp only [JobRecord.canCharge, Accumulator.takes, Bool.and_eq_true, decide_eq_true_eq] at can
  obtain ⟨⟨_, fits⟩, _, totalFits⟩ := can
  constructor
  · have grown := j.accounts_sum i (j.accumulators[i.castSucc].charged mills)
    rw [JobRecord.mapCharge_accounts, JobRecord.mapCharge_total]
    simp only [Accumulator.charged] at grown ⊢
    omega
  · intro a at_
    rcases JobRecord.mem_mapCharge at_ with rfl | rfl | old
    · exact fits
    · exact totalFits
    · exact limit a old

/-- A refused charge only marks (R160). -/
theorem JobRecord.refused_totalKept {j : JobRecord} (i : Account) (mills : Nat) (h : j.totalKept) :
    (j.mapCharge i (·.refused mills)).totalKept := by
  obtain ⟨sum, limit⟩ := h
  constructor
  · have same := j.accounts_sum i (j.accumulators[i.castSucc].refused mills)
    rw [JobRecord.mapCharge_accounts, JobRecord.mapCharge_total]
    simp only [Accumulator.refused] at same ⊢
    omega
  · intro a at_
    rcases JobRecord.mem_mapCharge at_ with rfl | rfl | old
    · exact limit j.accumulators[i.castSucc] (by simp)
    · exact limit j.total (by simp [JobRecord.total])
    · exact limit a old

/-- What goes with a charge that is made: no change of the accumulators, residues kept in range. -/
structure GoesWithCharge (made : JobRecord → JobRecord) : Prop where
  accumulators : ∀ j, (made j).accumulators = j.accumulators
  residues : ∀ j : JobRecord, j.residuesKept → (made j).residuesKept

theorem GoesWithCharge.id : GoesWithCharge id := ⟨fun _ => rfl, fun _ h => h⟩

theorem GoesWithCharge.count (i n) : GoesWithCharge (·.count i n) := ⟨fun _ => rfl, fun _ h => h⟩

/-- A residue in mills of time, and the second counted (R155). -/
theorem GoesWithCharge.time (k : Fin 7) (n : Nat) (i : Fin 17) :
    GoesWithCharge fun j => { j with timeResidues := put j.timeResidues k (n % 921600) }.count i 1 := by
  refine ⟨fun _ => rfl, fun j h => ⟨fun r at_ => ?_, h.2⟩⟩
  rcases mem_put at_ with rfl | old
  · exact Nat.mod_lt _ (by decide)
  · exact h.1 r old

/-- A residue in mills of footage, and the growth counted (R157). -/
theorem GoesWithCharge.footage (b : Fin 4) (n : Nat) (i : Fin 17) (growth : Nat) :
    GoesWithCharge fun j => { j with bandResidues := put j.bandResidues b (n % 256) }.count i growth := by
  refine ⟨fun _ => rfl, fun j h => ⟨h.1, fun r at_ => ?_⟩⟩
  rcases mem_put at_ with rfl | old
  · exact Nat.mod_lt _ (by decide)
  · exact h.2 r old

theorem State.charge_job (i : Account) (mills : Nat) (made : JobRecord → JobRecord) (s : State) :
    (s.charge i mills made).meter.job =
      if s.meter.job.canCharge i mills then made (s.meter.job.mapCharge i (·.charged mills))
      else s.meter.job.mapCharge i (·.refused mills) := by
  unfold State.charge
  split <;> rfl

theorem State.charge_keeps (i : Account) (mills : Nat) {made : JobRecord → JobRecord} (goes : GoesWithCharge made)
    (s : State) : JobKeeps s.meter.job (s.charge i mills made).meter.job := by
  rw [State.charge_job]
  split
  case isTrue can =>
    refine ⟨fun h => ?_, fun h => goes.residues _ h⟩
    have charged := JobRecord.charged_totalKept can h
    simpa only [JobRecord.totalKept, JobRecord.total, goes.accumulators] using charged
  case isFalse => exact ⟨JobRecord.refused_totalKept i mills, fun h => h⟩

theorem State.chargeSecond_keeps (c : CabConfig) (a : Activity) (minute : Nat) (s : State) :
    JobKeeps s.meter.job (s.chargeSecond c a minute).meter.job :=
  State.charge_keeps _ _ (.time _ _ _) s

theorem State.chargeFootage_keeps (c : CabConfig) (b : Fin 4) (minute growth : Nat) (s : State) :
    JobKeeps s.meter.job (s.chargeFootage c b minute growth).meter.job :=
  State.charge_keeps _ _ (.footage _ _ _ _) s

theorem State.chargeAdditive_keeps (c : CabConfig) (k : Fin 4) (growth : Nat) (s : State) :
    JobKeeps s.meter.job (s.chargeAdditive c k growth).meter.job :=
  State.charge_keeps _ _ (.count _ _) s

theorem State.chargeWear_keeps (c : CabConfig) (growth : Nat) (s : State) :
    JobKeeps s.meter.job (s.chargeWear c growth).meter.job :=
  State.charge_keeps _ _ (.count _ _) s

/-! ### Counters and seconds -/

theorem State.mapJob_keeps {f : JobRecord → JobRecord} (accumulators : ∀ j, (f j).accumulators = j.accumulators)
    (time : ∀ j, (f j).timeResidues = j.timeResidues) (band : ∀ j, (f j).bandResidues = j.bandResidues) (s : State) :
    JobKeeps s.meter.job (s.mapJob f).meter.job :=
  .of_same (accumulators _) (time _) (band _)

theorem State.readCounter_keeps (n : Fin 9) (value : Nat) (standing : Bool) (gap : JobFlags → JobFlags)
    {charge : Nat → State → State} (charges : ∀ g u, JobKeeps u.meter.job (charge g u).meter.job) (s : State) :
    JobKeeps s.meter.job (s.readCounter n value standing gap charge).meter.job := by
  have noted (u : State) : JobKeeps u.meter.job (u.mapJob (·.seen n value)).meter.job :=
    State.mapJob_keeps (fun _ => rfl) (fun _ => rfl) (fun _ => rfl) u
  unfold State.readCounter
  (repeat' split)
  · exact noted s
  · exact noted s
  · exact State.mapJob_keeps (fun _ => rfl) (fun _ => rfl) (fun _ => rfl) s
  · exact .refl _
  · exact (charges _ s).trans (noted _)
  all_goals exact .refl _

theorem State.readFootage_keeps (c : CabConfig) (b : Fin 4) (value : Nat) (s : State) :
    JobKeeps s.meter.job (s.readFootage c b value).meter.job := by
  refine State.readCounter_keeps _ _ _ _ (fun g u => ?_) s
  split
  · exact State.chargeFootage_keeps c b _ g u
  · exact .refl _

theorem State.readAdditive_keeps (c : CabConfig) (k : Fin 4) (value : Nat) (s : State) :
    JobKeeps s.meter.job (s.readAdditive c k value).meter.job :=
  State.readCounter_keeps _ _ _ _ (State.chargeAdditive_keeps c k) s

/-- Four counters read one after the other. -/
theorem fourIndexes_keeps {f : State → Fin 4 → State} (each : ∀ u b, JobKeeps u.meter.job (f u b).meter.job)
    (s : State) : JobKeeps s.meter.job (fourIndexes.foldl f s).meter.job :=
  (((each s 0).trans (each _ 1)).trans (each _ 2)).trans (each _ 3)

theorem State.asCab_keeps {f : CabConfig → State} {s : State} (each : ∀ c, JobKeeps s.meter.job (f c).meter.job) :
    JobKeeps s.meter.job (s.asCab f).meter.job := by
  unfold State.asCab
  (repeat' split)
  · exact each _
  all_goals exact .refl _

theorem State.meterHead_keeps (a : HeadAnnounce) (s : State) : JobKeeps s.meter.job (s.meterHead a).meter.job :=
  State.asCab_keeps fun c => fourIndexes_keeps (fun u b => State.readFootage_keeps c b _ u) s

theorem State.meterMud_keeps (a : MudAnnounce) (s : State) : JobKeeps s.meter.job (s.meterMud a).meter.job :=
  State.asCab_keeps fun c => fourIndexes_keeps (fun u k => State.readAdditive_keeps c k _ u) s

theorem State.meterHandler_keeps (a : HandlerAnnounce) (s : State) :
    JobKeeps s.meter.job (s.meterHandler a).meter.job :=
  State.asCab_keeps fun c => State.readCounter_keeps _ _ _ _ (State.chargeWear_keeps c) s

theorem State.elapsedSecond_keeps (c : CabConfig) (s : State) :
    JobKeeps s.meter.job (s.elapsedSecond c).meter.job := by
  unfold State.elapsedSecond
  (repeat' split)
  · exact State.chargeSecond_keeps _ _ _ s
  · exact State.mapJob_keeps (fun _ => rfl) (fun _ => rfl) (fun _ => rfl) s
  · exact .refl _

theorem State.readArrival_keeps (a : Announcement) (s : State) :
    JobKeeps s.meter.job (s.readArrival a).meter.job := by
  cases a with
  | mud a =>
    refine JobKeeps.trans (.of_same ?_ ?_ ?_) (State.meterMud_keeps a _) <;> split <;> simp
  | handler a =>
    refine JobKeeps.trans (.of_same ?_ ?_ ?_) (State.meterHandler_keeps a _) <;>
      (unfold State.asHead; (repeat' split) <;> simp)
  | head a => exact State.meterHead_keeps a s
  | cab a => exact .refl _

@[simp] theorem State.yieldTo_meter (st : Station) (claimed : Role → Bool) (s : State) :
    (s.yieldTo st claimed).meter = s.meter := by
  unfold State.yieldTo
  split <;> simp

theorem State.announcementArrival_keeps (st : Station) (a : Announcement) (s : State) :
    JobKeeps s.meter.job (s.announcementArrival st a).meter.job := by
  rw [State.announcementArrival_eq, settle_touches _ .meter (by simp [sequencerBlocks])]
  split
  · refine JobKeeps.trans ?_ (State.readArrival_keeps a _)
    exact .of_same (by simp) (by simp) (by simp)
  · exact .of_same (by simp) (by simp) (by simp)

theorem State.completedFrame_keeps (own : Station) (f : Frame) (s : State) :
    JobKeeps s.meter.job (s.completedFrame own f).meter.job := by
  cases f with
  | holdSet | holdRelease => exact .refl _
  | directive d =>
    rw [State.completedFrame, routeDirective_touches _ _ _ .meter (by simp [directiveBlocks])]
    exact .refl _
  | announce a => exact State.announcementArrival_keeps own a s
  | presence p =>
    simp only [State.completedFrame, State.presenceArrival_frame]
    exact .refl _

theorem State.enterRunning_job (s : State) : s.enterRunning.meter.job = s.meter.job := by
  have cab (u : State) : u.cabEntry.meter.job = u.meter.job := by
    unfold State.cabEntry
    split <;> rfl
  rw [State.enterRunning, allDue_touches _ .meter (by simp), cab, headEntry_touches _ .meter (by simp),
    mudEntry_touches _ .meter (by simp), handlerEntry_touches _ .meter (by simp [holdBlocks])]

/-! ### Every command -/

theorem openJobRequest_keeps (number : BitVec 16) (s : State) :
    JobKeeps s.meter.job (openJobRequest number s).2.meter.job := by
  unfold openJobRequest
  dsimp only
  (repeat' split)
  case isFalse.isFalse.isFalse => exact .of_zero rfl rfl rfl
  all_goals exact .refl _

theorem jobStateRequest_keeps (old new : JobState) (s : State) :
    JobKeeps s.meter.job (jobStateRequest old new s).2.meter.job := by
  unfold jobStateRequest
  split
  · exact State.mapJob_keeps (fun _ => rfl) (fun _ => rfl) (fun _ => rfl) s
  · exact .refl _

theorem closeJobRequest_keeps (s : State) : JobKeeps s.meter.job (closeJobRequest s).2.meter.job := by
  unfold closeJobRequest
  split
  · exact State.mapJob_keeps (fun _ => rfl) (fun _ => rfl) (fun _ => rfl) s
  · exact .refl _

theorem fetchSummaryRequest_keeps (s : State) : JobKeeps s.meter.job (fetchSummaryRequest s).2.meter.job := by
  unfold fetchSummaryRequest
  split
  · exact .refl _
  · exact State.mapJob_keeps (fun _ => rfl) (fun _ => rfl) (fun _ => rfl) s

theorem addChargeRequest_keeps (amount : BitVec 32) (s : State) :
    JobKeeps s.meter.job (addChargeRequest amount s).2.meter.job := by
  unfold addChargeRequest
  dsimp only
  (repeat' split)
  case isTrue | isFalse.isTrue => exact .refl _
  all_goals exact State.charge_keeps _ _ .id s

/-- Every command keeps the job record's invariants. -/
theorem exec_job {i : Instr} {s t : State} (next : exec i s = .next t) : JobKeeps s.meter.job t.meter.job := by
  by_cases touched : .meter ∈ footprint i
  · have request {r : Role} {f : State → Answered} (h : JobKeeps s.meter.job (f s).2.meter.job) :
        JobKeeps s.meter.job (s.runningRequest r f).2.meter.job :=
      runningRequest_keeps (P := fun u => JobKeeps s.meter.job u.meter.job) (.refl _) fun _ => h
    cases i with
    | powerOnReset kept =>
      cases next
      unfold State.powerOn
      dsimp only
      split
      · exact .of_same rfl rfl rfl
      · exact .of_zero rfl rfl rfl
    | reset => cases next; exact .of_same rfl rfl rfl
    | openJob number => cases next; exact request (openJobRequest_keeps number s)
    | suspendJob => cases next; exact request (jobStateRequest_keeps _ _ s)
    | resumeJob => cases next; exact request (jobStateRequest_keeps _ _ s)
    | closeJob => cases next; exact request (closeJobRequest_keeps s)
    | addCharge amount => cases next; exact request (addChargeRequest_keeps amount s)
    | fetchSummary =>
      cases next
      exact roleRequest_keeps (P := fun u => JobKeeps s.meter.job u.meter.job) (.refl _) fun _ =>
        fetchSummaryRequest_keeps s
    | frameComplete =>
      rcases execFrameComplete_cases next with rfl | ⟨own, f, u, _, _, _, rfl, rfl⟩
      · exact .refl _
      · have keeps := State.completedFrame_keeps own f
          { s with link := { s.link.disposed f with line := .busy, receiving := false, faultCount := 0 } }
        exact keeps
    | announcementReceived source content =>
      cases next
      rcases s.deliver_cases source _ with same | clash | delivered
      · rw [same]; exact .refl _
      · rw [clash]; exact .refl _
      · rw [delivered]; exact State.announcementArrival_keeps source content s.frameEnded
    | listenTimerExpiry =>
      cases next
      split
      · refine .of_same ?_ ?_ ?_ <;> rw [State.enterRunning_job]
      · exact .refl _
    | secondStep =>
      cases next
      exact State.asCab_keeps fun c => State.elapsedSecond_keeps c (s.takeClass c s.stepMinute)
    | _ =>
      simp [footprint, holdBlocks, sequencerBlocks, yieldBlocks, presenceBlocks, directiveBlocks] at touched
  · rw [exec_touches next .meter touched]
    exact .refl _

end Machine

open Machine

/-! ### The obligation -/

/-- Settles O55: charges keep the total the sum of the other accumulators and within the limit, residues are
remainders, and nothing else touches accumulators or residues but to zero them. -/
theorem jobStaysConsistent : Obligations.JobStaysConsistent := by
  intro s t next
  rcases step_cases next with ⟨_, rfl⟩ | ⟨c, rest, _, run⟩
  · rw [idle_touches s .meter (by simp)]
    exact JobKeeps.refl _
  · have keeps := exec_job run
    exact keeps

end Sys2Proof
end

section
/-! SUPPORT. The store of the strata log along every step (R137 to R141): records are written under the next numbers,
trimmed from the oldest end, and touched by nothing else. -/

namespace Sys2Proof.Machine

/-! ### Contiguity -/

theorem numbered_sequences (sequence : Nat) (bodies : List StrataBody) :
    (numbered sequence bodies).map (·.sequence) = List.range' sequence bodies.length := by
  induction bodies generalizing sequence with
  | nil => rfl
  | cons b bs ih => simp [numbered, ih, List.range'_succ]

@[simp] theorem numbered_length (sequence : Nat) (bodies : List StrataBody) :
    (numbered sequence bodies).length = bodies.length := by
  simpa using congrArg List.length (numbered_sequences sequence bodies)

/-- Contiguity looks at the store and at the open interval's number alone. -/
theorem StrataLog.contiguous_congr {g g' : StrataLog} (store : g'.store = g.store)
    (sequence : g'.current.sequence = g.current.sequence) (h : g.contiguous) : g'.contiguous := by
  simpa only [StrataLog.contiguous, store, sequence] using h

/-- Records written under the next numbers, with the open interval's number moved past them (R137). -/
theorem StrataLog.contiguous_written {g g' : StrataLog} {bodies : List StrataBody} (h : g.contiguous)
    (takes : g.takes bodies.length = true) (store : g'.store = g.store ++ numbered g.current.sequence bodies)
    (sequence : g'.current.sequence = g.current.sequence + bodies.length) : g'.contiguous := by
  obtain ⟨run, _, below, _⟩ := h
  simp only [StrataLog.takes, Bool.and_eq_true, decide_eq_true_eq] at takes
  obtain ⟨⟨room, _⟩, numbers⟩ := takes
  have length : g'.store.length = g.store.length + bodies.length := by rw [store]; simp
  have first : g'.current.sequence - g'.store.length = g.current.sequence - g.store.length := by omega
  refine ⟨?_, by omega, by omega, by omega⟩
  rw [first, length, store, List.map_append, run, numbered_sequences, List.range'_append_1.symm]
  congr 2
  omega

/-- The oldest records dropped (R142). -/
theorem StrataLog.contiguous_trimmed {g g' : StrataLog} (n : Nat) (h : g.contiguous)
    (store : g'.store = g.store.drop n) (sequence : g'.current.sequence = g.current.sequence) : g'.contiguous := by
  obtain ⟨run, room, below, numbers⟩ := h
  have length : g'.store.length = g.store.length - n := by rw [store, List.length_drop]
  refine ⟨?_, by omega, by omega, by omega⟩
  rw [length, sequence, store, List.map_drop, run, List.drop_range']
  by_cases few : n ≤ g.store.length
  · congr 1
    omega
  · have none : g.store.length - n = 0 := by omega
    rw [none]
    rfl

theorem StrataLog.contiguous_initial : StrataLog.initial.contiguous := by decide

/-! ### What a change of the state keeps of it -/

/-- A change of the state that keeps the store contiguous. -/
def LogKeeps (s t : State) : Prop := s.log.contiguous → t.log.contiguous

theorem LogKeeps.refl (s : State) : LogKeeps s s := id

theorem LogKeeps.trans {s t u : State} (a : LogKeeps s t) (b : LogKeeps t u) : LogKeeps s u := b ∘ a

theorem LogKeeps.of_same {s t : State} (store : t.log.store = s.log.store)
    (sequence : t.log.current.sequence = s.log.current.sequence) : LogKeeps s t :=
  StrataLog.contiguous_congr store sequence

theorem LogKeeps.of_log {s t : State} (log : t.log = s.log) : LogKeeps s t :=
  .of_same (by rw [log]) (by rw [log])

/-- A change made after another one that leaves the log alone. -/
theorem LogKeeps.later {s t u : State} (h : LogKeeps t u) (before : t.log = s.log) : LogKeeps s u :=
  (LogKeeps.of_log before).trans h

theorem LogKeeps.later_of {s t u : State} (h : LogKeeps t u) (before : LogKeeps s t) : LogKeeps s u := before.trans h

theorem LogKeeps.ite {s t u : State} {p : Prop} [Decidable p] (yes : p → LogKeeps s t) (no : ¬ p → LogKeeps s u) :
    LogKeeps s (if p then t else u) := by
  split
  case isTrue holds => exact yes holds
  case isFalse fails => exact no fails

theorem LogKeeps.ite_snd {s : State} {a b : Answered} {p : Prop} [Decidable p] (yes : p → LogKeeps s a.2)
    (no : ¬ p → LogKeeps s b.2) : LogKeeps s (if p then a else b).2 := by
  split
  case isTrue holds => exact yes holds
  case isFalse fails => exact no fails

theorem LogKeeps.asHead {s t : State} {f : HeadConfig → State} (base : LogKeeps s t) (h : ∀ c, LogKeeps s (f c)) :
    LogKeeps s (t.asHead f) := by
  unfold State.asHead
  (repeat' split)
  · exact h _
  · exact base
  · exact base

/-! ### Closing and splitting (R137 to R140) -/

@[simp] theorem State.writeRecords_log (bodies : List StrataBody) (s : State) :
    (s.writeRecords bodies).log = { s.log with store := s.log.store ++ numbered s.log.current.sequence bodies } := by
  simp [State.writeRecords]

theorem State.closedParts_length (bottom : Nat) (s : State) :
    (s.closedParts bottom).length = s.log.current.parts := by
  unfold State.closedParts Interval.parts
  cases s.log.current.lower <;> rfl

theorem State.closeInterval_contiguous (bottom depth : Nat) (lithology : Lithology) {s : State}
    (takes : s.log.takes s.log.current.parts = true) : LogKeeps s (s.closeInterval bottom depth lithology) := by
  intro h
  rw [← State.closedParts_length bottom] at takes
  refine StrataLog.contiguous_written h takes ?_ ?_
  · simp [State.closeInterval]
  · simp [State.closeInterval, State.openedInterval, State.closedParts_length]

theorem State.writeLower_contiguous (lower : StrataBody) {s : State} (takes : s.log.takes 1 = true) :
    LogKeeps s (s.writeLower lower) := by
  intro h
  refine StrataLog.contiguous_written (bodies := [lower]) h takes ?_ ?_ <;> simp [State.writeLower]

theorem State.mapInterval_contiguous {f : Interval → Interval} (s : State)
    (sequence : (f s.log.current).sequence = s.log.current.sequence) : LogKeeps s (s.mapInterval f) :=
  .of_same rfl sequence

theorem State.logRise_contiguous (old new : Nat) (s : State) : LogKeeps s (s.logRise old new) := by
  unfold State.logRise
  dsimp only
  split
  · split
    case isTrue takes => exact State.closeInterval_contiguous _ _ _ takes
    case isFalse => exact State.mapInterval_contiguous s rfl
  · exact .refl s

theorem setLithologyRequest_contiguous (lithology : Byte) (s : State) :
    LogKeeps s (setLithologyRequest lithology s).2 := by
  have reclassified (c : Lithology) (u : State) : LogKeeps u (u.reclassified c) := State.mapInterval_contiguous u rfl
  unfold setLithologyRequest
  dsimp only
  split
  · exact .refl s
  · refine .ite_snd (fun _ => ?_) fun _ => .ite_snd (fun takes => ?_) fun _ => .ite_snd (fun _ => ?_) fun _ => ?_
    · refine .trans ?_ (reclassified _ _)
      split
      · exact .ite (fun takes => State.writeLower_contiguous _ takes) fun _ => .refl s
      · exact .refl s
    · exact State.closeInterval_contiguous _ _ _ takes
    · exact State.mapInterval_contiguous s rfl
    · exact reclassified _ s

theorem State.logNewHole_contiguous (old : Nat) (s : State) : LogKeeps s (s.logNewHole old) := by
  have discarded (n : Nat) : LogKeeps s (s.discardInterval n) := .of_same rfl rfl
  unfold State.logNewHole
  dsimp only
  refine .ite (fun _ => ?_) fun _ => .ite (fun takes => State.closeInterval_contiguous _ _ _ takes) fun _ => discarded _
  split
  · exact .of_same rfl rfl
  case h_2 b _ =>
    refine .ite (fun takes h => ?_) fun _ => discarded 1
    refine StrataLog.contiguous_written (bodies := [b]) h takes ?_ ?_ <;>
      simp [State.reopenInterval, State.openedInterval]

/-! ### The tracker's part -/

theorem State.judgeBottom_contiguous (c : HeadConfig) (s : State) : LogKeeps s (s.judgeBottom c) := .of_same rfl rfl

theorem State.depthMismatch_contiguous (s : State) : LogKeeps s s.depthMismatch := .of_same rfl rfl

theorem State.advanceTo_contiguous (d : Nat) (s : State) : LogKeeps s (s.advanceTo d) :=
  .later (State.logRise_contiguous _ _ _) rfl

theorem State.recomputed_contiguous (c : HeadConfig) (s : State) : LogKeeps s (s.recomputed c) :=
  .ite (fun _ => .of_log rfl) fun _ => State.advanceTo_contiguous _ s

theorem State.counted_contiguous (c : HeadConfig) (up : Bool) (s : State) : LogKeeps s (s.counted c up) := by
  have moved (u : State) (log : u.log = s.log) :
      LogKeeps s ((if u.depth.tracking = .tracking then u.recomputed c else u).judgeBottom c) :=
    .trans (.ite (fun _ => .later (State.recomputed_contiguous c u) log) fun _ => .of_log log)
      (State.judgeBottom_contiguous c _)
  exact .ite (fun _ => .refl s) fun _ => moved _ rfl

theorem State.lengthChanged_contiguous (c : HeadConfig) (l : Nat) (s : State) : LogKeeps s (s.lengthChanged c l) :=
  .ite (fun _ => .of_same rfl rfl) fun _ => .later (State.advanceTo_contiguous _ _) rfl

theorem State.resynced_contiguous (c : HeadConfig) (l : Nat) (s : State) : LogKeeps s (s.resynced c l) := by
  unfold State.resynced
  dsimp only
  split <;> exact .of_same rfl rfl

theorem State.depthHandlerArrival_contiguous (c : HeadConfig) (a : HandlerAnnounce) (s : State) :
    LogKeeps s (s.depthHandlerArrival c a) := by
  unfold State.depthHandlerArrival
  dsimp only
  split
  · exact .ite (fun _ => (State.resynced_contiguous c _ s).trans (State.judgeBottom_contiguous c _)) fun _ => .refl s
  · exact .ite (fun _ => (State.lengthChanged_contiguous c _ s).trans (State.judgeBottom_contiguous c _)) fun _ => .refl s
  all_goals exact .refl s

theorem newHoleRequest_contiguous (s : State) : LogKeeps s (newHoleRequest s).2 := by
  unfold newHoleRequest
  have opened : LogKeeps s (({ s with depth := s.depth.newHole } : State).logNewHole s.depth.dmax) :=
    .later (State.logNewHole_contiguous _ _) rfl
  exact .ite_snd (fun _ => .refl s) fun _ => .asHead opened fun c => opened.trans (State.judgeBottom_contiguous c _)

theorem State.homed_log (c : HeadConfig) (s : State) :
    (s.homed c).log.store = s.log.store ∧ (s.homed c).log.current = s.log.current := ⟨rfl, rfl⟩

theorem State.headEntry_contiguous (s : State) : LogKeeps s s.headEntry := by
  refine .ite (fun _ => ?_) fun _ => .refl s
  have entered : LogKeeps s s.depthAtEntry := .asHead (.refl s) fun c => .ite (fun _ => .of_same rfl rfl) fun _ => .of_log rfl
  exact entered.trans (.of_log rfl)

/-! ### Arrivals, yields and the scan -/

theorem State.withPeers_contiguous (peers : Vector PeerEntry 8) (s : State) : LogKeeps s (s.withPeers peers) := by
  unfold State.withPeers State.mudOwnerChanged
  dsimp only
  (repeat' split) <;> exact .of_same rfl rfl

theorem State.stopWork_contiguous (r : Role) (s : State) : LogKeeps s (s.stopWork r) := by
  cases r with
  | handler => exact .ite (fun _ => .of_log (by simp)) fun _ => .refl s
  | mud | head | cab => exact .of_same rfl rfl

theorem State.yieldRole_contiguous (r : Role) (s : State) : LogKeeps s (s.yieldRole r) := by
  unfold State.yieldRole
  split
  · exact .later (State.stopWork_contiguous r _) rfl
  · exact .refl s

theorem State.yieldRoles_contiguous (claimed : Role → Bool) (s : State) : LogKeeps s (s.yieldRoles claimed) := by
  have each (u : State) (r : Role) : LogKeeps u (if claimed r then u.yieldRole r else u) :=
    .ite (fun _ => State.yieldRole_contiguous r u) fun _ => .refl u
  exact (((each s .mud).trans (each _ .handler)).trans (each _ .head)).trans (each _ .cab)

theorem State.yieldTo_contiguous (st : Station) (claimed : Role → Bool) (s : State) : LogKeeps s (s.yieldTo st claimed) :=
  .ite (fun _ => State.yieldRoles_contiguous claimed s) fun _ => .refl s

theorem State.logMudArrival_contiguous (condition : BalanceCondition) (s : State) :
    LogKeeps s (s.logMudArrival condition) := by
  unfold State.logMudArrival
  dsimp only
  split <;> exact .of_same rfl rfl

theorem State.readArrival_contiguous (a : Announcement) (s : State) : LogKeeps s (s.readArrival a) := by
  cases a with
  | mud a =>
    have read (u : State) (log : u.log = s.log) :
        LogKeeps s (State.meterMud a (if u.acts .head then u.logMudArrival a.condition else u)) :=
      LogKeeps.trans (t := if u.acts .head then u.logMudArrival a.condition else u)
        (.ite (fun _ => .later (State.logMudArrival_contiguous _ u) log) fun _ => .of_log log) (.of_log (by simp))
    exact read _ (by simp)
  | handler a =>
    have read (u : State) (log : u.log = s.log) :
        LogKeeps s (State.meterHandler a (u.asHead fun c => u.depthHandlerArrival c a)) :=
      LogKeeps.trans (t := u.asHead fun c => u.depthHandlerArrival c a)
        (.asHead (.of_log log) fun c => .later (State.depthHandlerArrival_contiguous c a u) log) (.of_log (by simp))
    exact read _ (by split <;> rfl)
  | head a => exact .of_log (by simp [State.readArrival])
  | cab a => exact .refl s

theorem addRemarkRequest_contiguous (code : Byte) (s : State) : LogKeeps s (addRemarkRequest code s).2 :=
  .ite_snd (fun _ => .refl s) fun _ => .ite_snd (fun _ => .refl s) fun _ => .of_same rfl rfl

theorem State.routeDirective_contiguous (source : Station) (d : Directive) (s : State) :
    LogKeeps s (s.routeDirective source d) := by
  have carried (r : Role) : LogKeeps s (s.carryOut r d).2 := by
    refine runningRequest_keeps (P := LogKeeps s) (.refl s) fun _ => ?_
    split
    · exact .refl s
    case h_2 c _ =>
      cases c with
      | setLithology => exact setLithologyRequest_contiguous _ s
      | addRemark => exact addRemarkRequest_contiguous _ s
      | markWater => exact .of_same rfl rfl
      | startPump => exact .of_log (startPumpRequest_touches _ s .log (by simp))
      | stopPump => exact .of_log (stopPumpRequest_touches _ s .log (by simp))
      | stopTrip => exact .of_log rfl
  unfold State.routeDirective
  split
  · exact .refl s
  case h_2 r _ => exact .ite (fun _ => (carried r).trans (.of_log (by simp [State.takeDirective]))) fun _ => .refl s

theorem State.mapPeer_contiguous (st : Station) (f : PeerEntry → PeerEntry) (s : State) : LogKeeps s (s.mapPeer st f) :=
  State.withPeers_contiguous _ s

theorem State.settle_log (s : State) : LogKeeps s s.settle := .of_log (by simp)

theorem State.announcementArrival_contiguous (st : Station) (a : Announcement) (s : State) :
    LogKeeps s (s.announcementArrival st a) :=
  State.announcementArrival_rel (R := LogKeeps) LogKeeps.trans st a (fun u f => State.mapPeer_contiguous st f u)
    (fun u f => State.yieldTo_contiguous st f u) (State.readArrival_contiguous a) State.settle_log s

theorem State.presenceArrival_contiguous (st : Station) (p : Presence) (s : State) :
    LogKeeps s (s.presenceArrival st p) :=
  State.presenceArrival_rel (R := LogKeeps) LogKeeps.trans st p (fun u f => State.mapPeer_contiguous st f u)
    (fun u f => State.yieldTo_contiguous st f u) (fun _ _ => .of_log (by simp)) State.settle_log s

theorem State.completedFrame_contiguous (own : Station) (f : Frame) (s : State) :
    LogKeeps s (s.completedFrame own f) := by
  cases f with
  | holdSet | holdRelease => exact .refl s
  | directive d => exact State.routeDirective_contiguous own d s
  | announce a => exact State.announcementArrival_contiguous own a s
  | presence p => exact State.presenceArrival_contiguous own p s

theorem State.beginScan_contiguous (s : State) : LogKeeps s s.beginScan :=
  .ite (fun _ => .of_same rfl rfl) fun _ => .of_same rfl rfl

theorem State.scanRecord_contiguous (number : Nat) (r : StrataRecord) (s : State) :
    LogKeeps s (s.scanRecord number r) :=
  .ite (fun _ => .ite (fun _ => .of_same rfl rfl) fun _ => .of_same rfl rfl) fun _ => .of_same rfl rfl

theorem State.started_contiguous (s : State) : LogKeeps s s.started := by
  have listening (u : State) (log : u.log = s.log) :
      LogKeeps s (u.yieldRoles u.claimedBelow).dropOwnEntry :=
    .trans (.later (State.yieldRoles_contiguous _ u) log)
      (.of_log (dropOwnEntry_touches _ .log (by simp [holdBlocks])))
  refine .ite (fun _ => .later_of (State.beginScan_contiguous _) (listening _ rfl)) fun _ => listening _ rfl

theorem State.enterRunning_contiguous (s : State) : LogKeeps s s.enterRunning := by
  have entered (u : State) (log : u.log = s.log) : LogKeeps s u.handlerEntry.mudEntry.headEntry.cabEntry.allDue :=
    .trans (.later (State.headEntry_contiguous _)
        ((mudEntry_touches _ .log (by simp)).trans ((handlerEntry_touches _ .log (by simp [holdBlocks])).trans log)))
      (.of_log ((allDue_touches _ .log (by simp)).trans (cabEntry_touches _ .log (by simp))))
  exact entered _ rfl

/-! ### The remaining requests of HEAD -/

theorem trimRequest_contiguous (count : BitVec 16) (s : State) : LogKeeps s (trimRequest count s).2 :=
  .ite_snd (fun _ => .refl s) fun _ => .ite_snd (fun _ => .refl s) fun _ h =>
    StrataLog.contiguous_trimmed count.toNat h rfl rfl

theorem fetchRecordRequest_contiguous (form : Byte) (sequence : BitVec 32) (s : State) :
    LogKeeps s (fetchRecordRequest form sequence s).2 := by
  unfold fetchRecordRequest
  (repeat' split)
  case h_2 => exact .of_same rfl rfl
  all_goals exact .refl s

theorem verifyRequest_contiguous (s : State) : LogKeeps s (verifyRequest s).2 :=
  .ite_snd (fun _ => .refl s) fun _ => State.beginScan_contiguous s

/-! ### Every command -/

theorem State.powerOn_contiguous (valid : Bool) (s : State) : LogKeeps s (s.powerOn valid) :=
  .ite (fun _ => .of_same rfl rfl) fun _ _ => StrataLog.contiguous_initial

/-- A received frame keeps the store if its delivery does. -/
theorem State.deliver_contiguous (source : Station) (s : State) {f : State → State} (h : ∀ u, LogKeeps u (f u)) :
    LogKeeps s (s.deliver source f) := by
  rcases s.deliver_cases source f with same | clash | delivered
  · rw [same]; exact .refl s
  · rw [clash]; exact .of_log rfl
  · rw [delivered]; exact .later (h _) rfl

theorem execSlotLost_contiguous {st : Station} {slot : SlotName} {s t : State}
    (next : execSlotLost st slot s = .next t) : LogKeeps s t := by
  have lost := State.mapPeer_contiguous st (·.marked slot .lost Config.lostAge) s
  cases next
  refine .ite (fun _ => .ite (fun _ => .later_of (State.settle_log _) lost) fun _ => .later_of (State.settle_log _) ?_)
    fun _ => .refl s
  exact .ite (fun _ => .later_of (.of_log (by simp)) lost) fun _ => .later_of (.of_log (by simp)) lost

/-- Every command keeps the store contiguous. -/
theorem exec_contiguous {i : Instr} {s t : State} (next : exec i s = .next t) : LogKeeps s t := by
  by_cases touched : .log ∈ footprint i
  · have request {i : Instr} {r : Role} {f : State → Answered} (h : LogKeeps s (f s).2) :
        LogKeeps s (State.answer i (s.runningRequest r f)) := by
      refine .trans (t := (s.runningRequest r f).2) ?_ (.of_log rfl)
      exact runningRequest_keeps (P := LogKeeps s) (.refl s) fun _ => h
    cases i with
    | powerOnReset kept => cases next; exact State.powerOn_contiguous _ s
    | reset => cases next; exact .of_same rfl rfl
    | start =>
      cases next
      refine .trans (t := (startRequest s).2) ?_ (.of_log rfl)
      exact .ite_snd (fun _ => .refl s) fun _ => State.started_contiguous s
    | newHole => cases next; exact request (newHoleRequest_contiguous s)
    | setLithology lithology => cases next; exact request (setLithologyRequest_contiguous lithology s)
    | addRemark code => cases next; exact request (addRemarkRequest_contiguous code s)
    | markWater => cases next; exact request (.of_same rfl rfl)
    | trim count => cases next; exact request (trimRequest_contiguous count s)
    | fetchRecord form sequence =>
      cases next
      refine .trans (t := (s.roleRequest .head (fetchRecordRequest form sequence)).2) ?_ (.of_log rfl)
      exact roleRequest_keeps (P := LogKeeps s) (.refl s) fun _ => fetchRecordRequest_contiguous form sequence s
    | verify => cases next; exact request (verifyRequest_contiguous s)
    | frameComplete =>
      rcases execFrameComplete_cases next with rfl | ⟨own, f, u, _, _, _, rfl, rfl⟩
      · exact .refl _
      · exact .later (State.completedFrame_contiguous own f _) rfl
    | presenceReceived source content =>
      cases next; exact State.deliver_contiguous source s (State.presenceArrival_contiguous source content)
    | announcementReceived source content =>
      cases next; exact State.deliver_contiguous source s (State.announcementArrival_contiguous source content)
    | directiveReceived source directive =>
      cases next; exact State.deliver_contiguous source s (State.routeDirective_contiguous source directive)
    | slotStale st slot => cases next; exact .ite (fun _ => State.mapPeer_contiguous st _ s) fun _ => .refl s
    | slotLost st slot => exact execSlotLost_contiguous next
    | listenTimerExpiry => cases next; exact .ite (fun _ => State.enterRunning_contiguous s) fun _ => .refl s
    | timeBaseStep =>
      have ticked (iv : Interval) : iv.tick.sequence = iv.sequence := by
        unfold Interval.tick
        split <;> rfl
      cases next
      refine .ite (fun _ => .of_same ?_ ?_) fun _ => .of_log ?_ <;>
        (split <;> split <;> first | rfl | exact ticked _)
    | rotationPulse =>
      cases next
      exact .asHead (.refl s) fun c => .of_same rfl rfl
    | rotationWaitExpiry =>
      cases next
      exact .asHead (.refl s) fun c => .ite (fun _ => .of_same rfl rfl) fun _ => .refl s
    | verifyScanStep =>
      cases next
      (repeat' split)
      case h_1 => exact State.scanRecord_contiguous _ _ s
      all_goals exact .refl s
    | encoderLineChange a b =>
      cases next
      refine .ite (fun _ => .of_log rfl) fun _ => .asHead (.of_log rfl) fun c =>
        .ite (fun _ => .of_same rfl rfl) fun _ => .later (State.counted_contiguous c _ _) rfl
    | homeSwitchEdge closed =>
      cases next
      exact .ite (fun _ => .of_log rfl) fun _ => .asHead (.of_log rfl) fun c => .of_same rfl rfl
    | headDriveChange level =>
      cases next
      exact .ite (fun _ => .of_log rfl) fun _ => .asHead (.of_log rfl) fun c => .of_same rfl rfl
    | _ => simp [footprint, holdBlocks, sequencerBlocks] at touched
  · exact .of_log (exec_touches next .log touched)

end Sys2Proof.Machine

namespace Sys2Proof

open Machine

/-! ### The obligation -/

/-- Settles O56: a close writes under the next numbers only where the store takes it, TRIM drops from the oldest end,
and nothing else touches the store or the open interval's number. -/
theorem storeStaysContiguous : Obligations.StoreStaysContiguous := by
  intro s t whole next
  refine step_keeps (P := fun u => u.log.contiguous) (fun touches h => ?_) (fun h run => exec_contiguous run h) whole next
  rw [touches .log (by simp)]
  exact h

end Sys2Proof
end

section
/-! SUPPORT. The rod inventory along every step (R56 to R65): moves carry rods about whole, records come in under a new
ID, and the correction goes with the string. -/

namespace Sys2Proof.Machine

/-! ### Rod IDs place by place -/

/-- How often a rod ID is held. -/
def Inventory.idCount (v : Inventory) (id : Nat) : Nat := v.ids.count id

/-- How often one place holds a rod ID. -/
def placeCount (r : Option Rod) (id : Nat) : Nat := ((r.map (·.id)).toList).count id

theorem Inventory.idsUnique_iff (v : Inventory) : v.idsUnique ↔ ∀ id, v.idCount id ≤ 1 :=
  List.nodup_iff_count

/-- How often the rack holds a rod ID. -/
def rackCount (rack : Vector (Option Rod) 60) (id : Nat) : Nat :=
  (rack.toList.filterMap (Option.map (·.id))).count id

theorem Inventory.idCount_eq (v : Inventory) (id : Nat) :
    v.idCount id = rackCount v.rack id + (v.string.map (·.id)).count id + placeCount v.transit id := by
  simp only [Inventory.idCount, Inventory.ids, rackCount, placeCount, List.count_append]

@[simp] theorem placeCount_none (id : Nat) : placeCount none id = 0 := rfl

theorem filterMap_cons_count (r : Option Rod) (l : List (Option Rod)) (id : Nat) :
    ((r :: l).filterMap (Option.map (·.id))).count id =
      placeCount r id + (l.filterMap (Option.map (·.id))).count id := by
  cases r with
  | none => simp
  | some r => rw [placeCount, ← List.count_append]; rfl

/-- A place of a list of places replaced: the rods of the other places stay. -/
theorem places_set_count {l : List (Option Rod)} {i : Nat} (x : Option Rod) (id : Nat) (inside : i < l.length) :
    ((l.set i x).filterMap (Option.map (·.id))).count id + placeCount l[i] id =
      (l.filterMap (Option.map (·.id))).count id + placeCount x id := by
  induction l generalizing i with
  | nil => exact absurd inside (Nat.not_lt_zero _)
  | cons r l ih =>
    cases i with
    | zero =>
      rw [List.set_cons_zero, List.getElem_cons_zero, filterMap_cons_count, filterMap_cons_count]
      omega
    | succ i =>
      have rest := ih (Nat.lt_of_succ_lt_succ inside)
      rw [List.set_cons_succ, List.getElem_cons_succ, filterMap_cons_count, filterMap_cons_count]
      omega

/-- A rack slot replaced: the rods of the other slots stay. -/
theorem rackCount_put (rack : Vector (Option Rod) 60) (i : RackSlot) (x : Option Rod) (id : Nat) :
    rackCount (put rack i x) id + placeCount rack[i] id = rackCount rack id + placeCount x id := by
  have inside : i.val < rack.toList.length := by simp
  rw [rackCount, put, Vector.toList_set]
  exact places_set_count x id inside

/-! ### What a change of the inventory keeps -/

def InventoryKeeps (v v' : Inventory) : Prop :=
  (v.idsUnique → v'.idsUnique) ∧ (v.stringKept → v'.stringKept)

theorem InventoryKeeps.refl (v : Inventory) : InventoryKeeps v v := ⟨id, id⟩

theorem InventoryKeeps.trans {v v' v'' : Inventory} (a : InventoryKeeps v v') (b : InventoryKeeps v' v'') :
    InventoryKeeps v v'' :=
  ⟨b.1 ∘ a.1, b.2 ∘ a.2⟩

/-- No rod ID is held oftener than before. -/
theorem InventoryKeeps.of_counts {v v' : Inventory} (counts : ∀ id, v'.idCount id ≤ v.idCount id)
    (string : v.stringKept → v'.stringKept) : InventoryKeeps v v' := by
  refine ⟨fun unique => ?_, string⟩
  rw [Inventory.idsUnique_iff] at unique ⊢
  exact fun id => Nat.le_trans (counts id) (unique id)

/-- One rod more, of an ID not held. -/
theorem InventoryKeeps.of_new {v v' : Inventory} (r : Rod) (new : v.hasId r.id = false)
    (counts : ∀ id, v'.idCount id = v.idCount id + placeCount (some r) id) (string : v.stringKept → v'.stringKept) :
    InventoryKeeps v v' := by
  have absent : r.id ∉ v.ids := by
    simp only [Inventory.hasId, Bool.or_eq_false_iff, List.any_eq_false, Option.any_eq_false, beq_iff_eq] at new
    obtain ⟨⟨rack, string⟩, transit⟩ := new
    simp only [Inventory.ids, List.mem_append, List.mem_filterMap, List.mem_map, Option.mem_toList, Option.mem_def,
      Option.map_eq_some_iff]
    rintro ((⟨place, at_, held, is, same⟩ | ⟨held, at_, same⟩) | ⟨held, is, same⟩)
    · exact rack place at_ (by simp [is, same])
    · exact string held at_ same
    · simp [is, same] at transit
  refine ⟨fun unique => ?_, string⟩
  rw [Inventory.idsUnique_iff] at unique ⊢
  intro id
  rw [counts]
  by_cases same : id = r.id
  · subst same
    rw [Inventory.idCount, List.count_eq_zero.mpr absent]
    simp [placeCount]
  · have none : placeCount (some r) id = 0 := by simp [placeCount, Ne.symm same]
    rw [none]
    exact unique id

/-! ### Moves (R58) -/

theorem Inventory.pick_keeps {v v' : Inventory} {i : RackSlot} (moved : v.pick i = .ok v') : InventoryKeeps v v' := by
  unfold Inventory.pick at moved
  split at moved <;> cases moved
  case h_3 r slot transit =>
    refine .of_counts (fun id => ?_) (fun h => h)
    have rack := rackCount_put v.rack i none id
    rw [slot] at rack
    simp only [Inventory.idCount_eq, transit, placeCount_none] at rack ⊢
    omega

theorem Inventory.store_keeps {v v' : Inventory} {i : RackSlot} (moved : v.store i = .ok v') : InventoryKeeps v v' := by
  unfold Inventory.store at moved
  split at moved <;> cases moved
  case h_3 r transit slot =>
    refine .of_counts (fun id => ?_) (fun h => h)
    have rack := rackCount_put v.rack i (some r) id
    rw [slot] at rack
    simp only [Inventory.idCount_eq, transit, placeCount_none] at rack ⊢
    omega

theorem string_append_count (l : List Rod) (r : Rod) (id : Nat) :
    ((l ++ [r]).map (·.id)).count id = (l.map (·.id)).count id + placeCount (some r) id := by
  rw [List.map_append, List.count_append]
  rfl

/-- A rod put on top of a string with room. -/
theorem stringKept_append {v : Inventory} (r : Rod) (room : v.string.length < Config.stringCapacity)
    (h : v.stringKept) : ({ v with string := v.string ++ [r], transit := none } : Inventory).stringKept := by
  obtain ⟨_, _, tally⟩ := h
  refine ⟨fun empty => by simp at empty, ?_, tally⟩
  show (v.string ++ [r]).length ≤ Config.stringCapacity
  rw [List.length_append]
  exact room

theorem Inventory.join_keeps {v v' : Inventory} {wearLimit : Nat} (moved : v.join wearLimit = .ok v') :
    InventoryKeeps v v' := by
  unfold Inventory.join at moved
  (repeat' split at moved) <;> cases moved
  case h_2.isTrue r transit room =>
    refine .of_counts (fun id => ?_) (stringKept_append _ room)
    simp only [Inventory.idCount_eq, transit, placeCount_none, string_append_count]
    exact Nat.le_of_eq (Nat.add_assoc _ _ _).symm

theorem Inventory.placeTop_keeps {v v' : Inventory} (moved : v.placeTop = .ok v') : InventoryKeeps v v' := by
  unfold Inventory.placeTop at moved
  (repeat' split at moved) <;> cases moved
  case h_2.isTrue r transit room =>
    refine .of_counts (fun id => ?_) (stringKept_append _ room)
    simp only [Inventory.idCount_eq, transit, placeCount_none, string_append_count]
    exact Nat.le_of_eq (Nat.add_assoc _ _ _).symm

theorem Inventory.settleTally_idCount (v : Inventory) (id : Nat) : v.settleTally.idCount id = v.idCount id := by
  unfold Inventory.settleTally
  split <;> rfl

/-- The correction is zeroed as the string becomes empty (R65). -/
theorem Inventory.settleTally_stringKept {v : Inventory} (length : v.string.length ≤ Config.stringCapacity)
    (tally : v.tally.natAbs ≤ 500) : v.settleTally.stringKept := by
  unfold Inventory.settleTally
  split
  · exact ⟨fun _ => ⟨rfl, rfl⟩, length, by simp⟩
  case isFalse rods => exact ⟨fun empty => absurd empty rods, length, tally⟩

theorem Inventory.lift_keeps {v v' : Inventory} (moved : v.lift = .ok v') : InventoryKeeps v v' := by
  unfold Inventory.lift at moved
  split at moved <;> cases moved
  case h_3 r top transit =>
    refine .of_counts (fun id => ?_) fun ⟨_, length, tally⟩ => Inventory.settleTally_stringKept ?_ tally
    · have split : v.string = v.string.dropLast ++ [r] := by
        obtain ⟨below, split⟩ := List.getLast?_eq_some_iff.1 top
        rw [split, List.dropLast_concat]
      have string := congrArg (fun l : List Rod => (l.map (·.id)).count id) split
      simp only [string_append_count] at string
      rw [Inventory.settleTally_idCount]
      simp only [Inventory.idCount_eq, transit, placeCount_none]
      omega
    · simp only [List.length_dropLast]
      omega

/-! ### The sequencer's moves -/

theorem State.stepMove_keeps {s : State} {st : Step} {v : Inventory} (moved : s.stepMove st = .ok v) :
    InventoryKeeps s.inventory v := by
  unfold State.stepMove at moved
  split at moved
  · exact Inventory.pick_keeps moved
  · exact Inventory.join_keeps moved
  · exact Inventory.lift_keeps moved
  · exact Inventory.store_keeps moved
  · cases moved; exact .refl _

theorem State.endStep_keeps (s : State) : InventoryKeeps s.inventory s.endStep.inventory := by
  unfold State.endStep
  split
  · exact .refl _
  · split
    · simpa using InventoryKeeps.refl s.inventory
    case h_2 moved =>
      dsimp only
      split <;> simpa using State.stepMove_keeps moved

theorem State.settleSteps_keeps (n : Nat) (s : State) : InventoryKeeps s.inventory (s.settleSteps n).inventory := by
  induction n generalizing s with
  | zero => exact .refl _
  | succ n ih =>
    unfold State.settleSteps
    split
    · exact (State.endStep_keeps s).trans (ih _)
    · exact .refl _

theorem State.settle_keeps (s : State) : InventoryKeeps s.inventory s.settle.inventory := State.settleSteps_keeps 6 s

/-- A settling after a change that leaves the inventory alone. -/
theorem State.settle_keeps_after {s u : State} (same : u.inventory = s.inventory) :
    InventoryKeeps s.inventory u.settle.inventory :=
  same ▸ State.settle_keeps u

/-! ### Requests -/

theorem registerRodRequest_keeps (slot : Byte) (id : BitVec 16) (kind : Byte) (length count : BitVec 16) (s : State) :
    InventoryKeeps s.inventory (registerRodRequest slot id kind length count s).2.inventory := by
  unfold registerRodRequest
  (repeat' split)
  case h_2.isFalse.isFalse i _ _ rod _ free new =>
    refine .of_new rod (Bool.eq_false_iff.mpr new) (fun id => ?_) fun h => h
    have rack := rackCount_put s.inventory.rack i (some rod) id
    have empty : s.inventory.rack[i] = none := by simpa using free
    rw [empty] at rack
    simp only [Inventory.idCount_eq, placeCount_none] at rack ⊢
    omega
  all_goals exact .refl _

theorem unregisterRodRequest_keeps (slot : Byte) (s : State) :
    InventoryKeeps s.inventory (unregisterRodRequest slot s).2.inventory := by
  unfold unregisterRodRequest
  (repeat' split)
  case h_2 i _ _ rod held =>
    refine .of_counts (fun id => ?_) fun h => h
    have rack := rackCount_put s.inventory.rack i none id
    simp only [Inventory.idCount_eq, placeCount_none] at rack ⊢
    omega
  all_goals exact .refl _

theorem appendStringRequest_keeps (id : BitVec 16) (kind : Byte) (length count : BitVec 16) (s : State) :
    InventoryKeeps s.inventory (appendStringRequest id kind length count s).2.inventory := by
  unfold appendStringRequest
  (repeat' split)
  case h_2.isFalse.isFalse rod _ room new =>
    refine .of_new rod (Bool.eq_false_iff.mpr new) (fun id => ?_) fun ⟨_, _, tally⟩ => ⟨fun empty => ?_, ?_, tally⟩
    · simp only [Inventory.idCount_eq, string_append_count]
      omega
    · simp at empty
    · rw [List.length_append]
      exact Nat.lt_of_not_le room
  all_goals exact .refl _

theorem setCarouselRequest_keeps (index : Byte) (s : State) :
    InventoryKeeps s.inventory (setCarouselRequest index s).2.inventory := by
  unfold setCarouselRequest
  split <;> exact .refl _

theorem correctTallyRequest_keeps (offset : BitVec 16) (s : State) :
    InventoryKeeps s.inventory (correctTallyRequest offset s).2.inventory := by
  unfold correctTallyRequest
  (repeat' split)
  case isFalse.isFalse small rods =>
    refine .of_counts (fun id => Nat.le_refl _) fun ⟨_, length, _⟩ => ⟨fun empty => absurd empty rods, length, ?_⟩
    dsimp only
    omega
  all_goals exact .refl _

theorem clearTallyRequest_keeps (s : State) : InventoryKeeps s.inventory (clearTallyRequest s).2.inventory :=
  .of_counts (fun id => Nat.le_refl _) fun ⟨_, length, _⟩ => ⟨fun _ => ⟨rfl, rfl⟩, length, by simp [clearTallyRequest]⟩

theorem resolveTransitRequest_keeps (destination slot : Byte) (s : State) :
    InventoryKeeps s.inventory (resolveTransitRequest destination slot s).2.inventory := by
  unfold resolveTransitRequest
  split
  · exact .refl _
  · split
    · split
      · exact .refl _
      · split
        · exact .refl _
        case h_2 moved => exact Inventory.store_keeps moved
    · split
      · exact .refl _
      case h_2 moved => exact Inventory.placeTop_keeps moved
    · exact .refl _

theorem holdRequest_keeps (s : State) : InventoryKeeps s.inventory (holdRequest s).2.inventory := by
  unfold holdRequest
  split
  · exact State.settle_keeps_after (by simp)
  · exact .refl _

theorem releaseHoldRequest_keeps (reason : Byte) (s : State) :
    InventoryKeeps s.inventory (releaseHoldRequest reason s).2.inventory := by
  unfold releaseHoldRequest
  (repeat' split)
  case h_2.isFalse.isFalse => exact State.settle_keeps_after (by simp)
  all_goals exact .refl _

theorem clearHoldRequest_keeps (station : Byte) (s : State) :
    InventoryKeeps s.inventory (clearHoldRequest station s).2.inventory := by
  unfold clearHoldRequest
  (repeat' split)
  case h_1.isTrue => exact State.settle_keeps_after (by simp)
  all_goals exact .refl _

theorem State.startCycle_inventory {k : CycleKind} {s t : State} (h : s.startCycle k = .ok t) :
    t.inventory = s.inventory := by
  rw [State.startCycle_frame' h]

theorem cycleRequest_keeps (k : CycleKind) (s : State) : InventoryKeeps s.inventory (cycleRequest k s).2.inventory := by
  unfold cycleRequest
  split
  · exact .refl _
  · split
    · exact .refl _
    · split
      case h_1 => exact .refl _
      case h_2 started => exact State.settle_keeps_after (State.startCycle_inventory started)

theorem tripRequest_keeps (k : CycleKind) (count : Byte) (s : State) :
    InventoryKeeps s.inventory (tripRequest k count s).2.inventory := by
  unfold tripRequest
  dsimp only
  (repeat' split)
  case h_2 started =>
    have same := State.startCycle_inventory started
    exact State.settle_keeps_after same
  all_goals exact .refl _

theorem resumeRequest_keeps (s : State) : InventoryKeeps s.inventory (resumeRequest s).2.inventory := by
  unfold resumeRequest
  dsimp only
  (repeat' split)
  case h_2 started =>
    have same := State.startCycle_inventory started
    exact State.settle_keeps_after same
  all_goals exact .refl _

theorem retryStepRequest_keeps (s : State) : InventoryKeeps s.inventory (retryStepRequest s).2.inventory := by
  unfold retryStepRequest
  split
  · exact State.settle_keeps_after (by simp)
  · exact .refl _

/-! ### Arrivals -/

/-- What the state's inventory keeps between two states. -/
def State.InventoryKept (s t : State) : Prop := InventoryKeeps s.inventory t.inventory

theorem State.InventoryKept.of_same {s t : State} (same : t.inventory = s.inventory) : s.InventoryKept t :=
  show InventoryKeeps s.inventory t.inventory from same ▸ .refl _

theorem State.InventoryKept.trans {s t u : State} (a : s.InventoryKept t) (b : t.InventoryKept u) : s.InventoryKept u :=
  InventoryKeeps.trans a b

theorem State.yieldTo_inventory (st : Station) (claimed : Role → Bool) (s : State) :
    (s.yieldTo st claimed).inventory = s.inventory := by
  unfold State.yieldTo
  split <;> simp

theorem State.announcementArrival_keepsInventory (st : Station) (a : Announcement) (s : State) :
    s.InventoryKept (s.announcementArrival st a) :=
  State.announcementArrival_rel (R := State.InventoryKept) State.InventoryKept.trans st a
    (fun _ _ => .of_same (by simp)) (fun _ _ => .of_same (State.yieldTo_inventory _ _ _))
    (fun _ => .of_same (by simp)) State.settle_keeps s

theorem State.presenceArrival_keepsInventory (st : Station) (p : Presence) (s : State) :
    s.InventoryKept (s.presenceArrival st p) :=
  State.presenceArrival_rel (R := State.InventoryKept) State.InventoryKept.trans st p
    (fun _ _ => .of_same (by simp)) (fun _ _ => .of_same (State.yieldTo_inventory _ _ _))
    (fun _ _ => .of_same (by simp)) State.settle_keeps s

theorem State.completedFrame_keepsInventory (own : Station) (f : Frame) (s : State) :
    s.InventoryKept (s.completedFrame own f) := by
  cases f with
  | holdSet | holdRelease => exact .of_same rfl
  | directive d => exact .of_same (routeDirective_touches own d s .inventory (by simp [directiveBlocks]))
  | announce a => exact State.announcementArrival_keepsInventory own a s
  | presence p => exact State.presenceArrival_keepsInventory own p s

/-- A received frame keeps what its delivery keeps. -/
theorem State.deliver_keepsInventory (source : Station) (s : State) {f : State → State}
    (h : ∀ u : State, u.InventoryKept (f u)) : s.InventoryKept (s.deliver source f) := by
  rcases s.deliver_cases source f with same | clash | delivered
  · exact .of_same (by rw [same])
  · exact .of_same (by rw [clash]; rfl)
  · rw [delivered]
    exact .trans (.of_same rfl) (h s.frameEnded)

/-! ### Every command -/

theorem State.powerOn_keepsInventory (valid : Bool) (s : State) : s.InventoryKept (s.powerOn valid) := by
  have initial : Inventory.initial.idsUnique ∧ Inventory.initial.stringKept := by decide
  unfold State.powerOn
  dsimp only
  split
  · exact InventoryKeeps.of_counts (fun _ => Nat.le_refl _) fun h => h
  · exact ⟨fun _ => initial.1, fun _ => initial.2⟩

theorem execSlotLost_keepsInventory {st : Station} {slot : SlotName} {s t : State}
    (next : execSlotLost st slot s = .next t) : s.InventoryKept t := by
  cases next
  dsimp only
  split
  · split
    · exact State.settle_keeps_after (by simp)
    · exact State.settle_keeps_after (by split <;> simp)
  · exact .of_same rfl

/-- Every command keeps the inventory's invariants. -/
theorem exec_keepsInventory {i : Instr} {s t : State} (next : exec i s = .next t) : s.InventoryKept t := by
  by_cases touched : .inventory ∈ footprint i
  · have request {i : Instr} {r : Role} {f : State → Answered} (h : s.InventoryKept (f s).2) :
        s.InventoryKept (State.answer i (s.runningRequest r f)) :=
      .trans (t := (s.runningRequest r f).2) (runningRequest_keeps (P := s.InventoryKept) (.of_same rfl) fun _ => h)
        (.of_same rfl)
    have idleRequest {i : Instr} {f : State → Answered} (h : s.InventoryKept (f s).2) :
        s.InventoryKept (State.answer i (s.inventoryRequest f)) := by
      refine request ?_
      split
      · exact .of_same rfl
      · exact h
    cases i with
    | powerOnReset kept => cases next; exact State.powerOn_keepsInventory _ s
    | reset => cases next; exact InventoryKeeps.of_counts (fun _ => Nat.le_refl _) fun h => h
    | hold => cases next; exact holdRequest_keeps s
    | releaseHold reason => cases next; exact releaseHoldRequest_keeps reason s
    | clearHold st => cases next; exact clearHoldRequest_keeps st s
    | registerRod slot id kind length count =>
      cases next; exact idleRequest (registerRodRequest_keeps slot id kind length count s)
    | unregisterRod slot => cases next; exact idleRequest (unregisterRodRequest_keeps slot s)
    | appendString id kind length count =>
      cases next; exact idleRequest (appendStringRequest_keeps id kind length count s)
    | setCarousel index => cases next; exact idleRequest (setCarouselRequest_keeps index s)
    | correctTally offset => cases next; exact request (correctTallyRequest_keeps offset s)
    | clearTally => cases next; exact request (clearTallyRequest_keeps s)
    | makeup => cases next; exact request (cycleRequest_keeps .makeup s)
    | breakout => cases next; exact request (cycleRequest_keeps .breakout s)
    | tripIn count => cases next; exact request (tripRequest_keeps .makeup count s)
    | tripOut count => cases next; exact request (tripRequest_keeps .breakout count s)
    | resume => cases next; exact request (resumeRequest_keeps s)
    | retryStep => cases next; exact request (retryStepRequest_keeps s)
    | resolveTransit destination slot => cases next; exact request (resolveTransitRequest_keeps destination slot s)
    | frameComplete =>
      rcases execFrameComplete_cases next with rfl | ⟨own, f, u, _, _, _, rfl, rfl⟩
      · exact .of_same rfl
      · have keeps := State.completedFrame_keepsInventory own f
          { s with link := { s.link.disposed f with line := .busy, receiving := false, faultCount := 0 } }
        exact keeps
    | presenceReceived source content =>
      cases next; exact State.deliver_keepsInventory source s (State.presenceArrival_keepsInventory source content)
    | announcementReceived source content =>
      cases next; exact State.deliver_keepsInventory source s (State.announcementArrival_keepsInventory source content)
    | holdReleaseReceived source =>
      cases next
      exact State.deliver_keepsInventory source s fun u => State.settle_keeps_after (by simp)
    | slotLost st slot => exact execSlotLost_keepsInventory next
    | handlerInputChange input level => cases next; exact State.settle_keeps_after rfl
    | carouselPulse => cases next; split <;> exact InventoryKeeps.of_counts (fun _ => Nat.le_refl _) fun h => h
    | _ => simp [footprint, holdBlocks, yieldBlocks, directiveBlocks] at touched
  · exact .of_same (exec_touches next .inventory touched)

end Sys2Proof.Machine

namespace Sys2Proof

open Machine

/-! ### The obligation -/

/-- Settles O57: moves carry a rod from one place to another, a rod comes in only under an ID that is nowhere held, and
every change of string or correction keeps their limits. -/
theorem inventoryStaysConsistent : Obligations.InventoryStaysConsistent := by
  intro s t next
  rcases step_cases next with ⟨_, rfl⟩ | ⟨c, rest, _, run⟩
  · rw [idle_touches s .inventory (by simp)]
    exact InventoryKeeps.refl _
  · have keeps := exec_keepsInventory run
    exact keeps

end Sys2Proof
end

section
/-! SUPPORT. The link controller along every step (R23 to R38): who touches its traffic (line state, frame in
transmission, counts, queue), and that every command keeps the counts in range and OWNER with its frame. -/

namespace Sys2Proof.Machine

/-! ### The traffic of the link -/

/-- What the invariants of the link look at: line state, frame in transmission, the two counts and the queue. -/
def Link.traffic (k : Link) : LineState × Option Frame × Nat × Nat × List Directive :=
  (k.line, k.sending, k.faultCount, k.errorCount, k.queue)

theorem Link.placeHold_traffic (k : Link) (f : HoldFrame) : (k.placeHold f).traffic = k.traffic := by
  unfold Link.placeHold
  split <;> rfl

/-- A change of the local reasons can only place a hold frame. -/
theorem State.setReasons_traffic (new : ReasonSet) (s : State) :
    (s.setReasons new).link.traffic = s.link.traffic := by
  unfold State.setReasons
  split
  · rfl
  · dsimp only
    split <;> simp [Link.placeHold_traffic]

theorem State.placeReason_traffic (r : HoldReason) (s : State) : (s.placeReason r).link.traffic = s.link.traffic :=
  State.setReasons_traffic _ s

theorem State.removeReason_traffic (r : HoldReason) (s : State) : (s.removeReason r).link.traffic = s.link.traffic :=
  State.setReasons_traffic _ s

theorem State.cycleFault_traffic (cause : FaultCause) (s : State) :
    (s.cycleFault cause).link.traffic = s.link.traffic := by
  unfold State.cycleFault
  dsimp only
  simp only [State.placeReason_traffic, State.raise_link, State.writeMarker_frame]

theorem State.endStep_traffic (s : State) : s.endStep.link.traffic = s.link.traffic := by
  unfold State.endStep
  split
  · rfl
  · split
    · exact State.cycleFault_traffic _ s
    · dsimp only
      split <;> simp

theorem State.settleSteps_traffic (n : Nat) (s : State) : (s.settleSteps n).link.traffic = s.link.traffic := by
  induction n generalizing s with
  | zero => rfl
  | succ n ih =>
    unfold State.settleSteps
    split
    · exact (ih _).trans (State.endStep_traffic s)
    · rfl

theorem State.settle_traffic (s : State) : s.settle.link.traffic = s.link.traffic := State.settleSteps_traffic 6 s

theorem State.enterRecover_traffic (s : State) : s.enterRecover.link.traffic = s.link.traffic := by
  unfold State.enterRecover
  split
  · rfl
  · exact State.placeReason_traffic _ _

theorem State.stopWork_traffic (r : Role) (s : State) : (s.stopWork r).link.traffic = s.link.traffic := by
  cases r with
  | handler =>
    rw [State.stopWork]
    split
    · exact State.enterRecover_traffic s
    · rfl
  | mud | head | cab => rfl

theorem Due.drop_traffic (k : Link) (r : Role) : ({ k with due := k.due.drop r } : Link).traffic = k.traffic := rfl

theorem State.yieldRole_traffic (r : Role) (s : State) : (s.yieldRole r).link.traffic = s.link.traffic := by
  unfold State.yieldRole
  split
  · exact State.stopWork_traffic r _
  · rfl

theorem State.yieldRoles_traffic (claimed : Role → Bool) (s : State) :
    (s.yieldRoles claimed).link.traffic = s.link.traffic := by
  have each (u : State) (r : Role) : (if claimed r then u.yieldRole r else u).link.traffic = u.link.traffic := by
    split
    · exact State.yieldRole_traffic r u
    · rfl
  exact (each _ .cab).trans ((each _ .head).trans ((each _ .handler).trans (each s .mud)))

/-! ### What a change of the link keeps -/

/-- A change of the link that keeps its counts in range, and OWNER with the frame in transmission. -/
def LinkKeeps (k k' : Link) : Prop := (k.countsKept → k'.countsKept) ∧ (k.owned → k'.owned)

theorem LinkKeeps.refl (k : Link) : LinkKeeps k k := ⟨id, id⟩

theorem LinkKeeps.trans {k k' k'' : Link} (a : LinkKeeps k k') (b : LinkKeeps k' k'') : LinkKeeps k k'' :=
  ⟨b.1 ∘ a.1, b.2 ∘ a.2⟩

theorem LinkKeeps.of_traffic {k k' : Link} (same : k'.traffic = k.traffic) : LinkKeeps k k' := by
  simp only [Link.traffic, Prod.mk.injEq] at same
  obtain ⟨line, sending, faults, errors, queue⟩ := same
  simp only [LinkKeeps, Link.countsKept, Link.owned, line, sending, faults, errors, queue, imp_self, and_self]

/-- Both invariants, from the counts and from a line state that agrees with the frame in transmission. -/
theorem LinkKeeps.of_ended {k k' : Link} (faults : k.countsKept → k'.faultCount ≤ Config.faultLimit)
    (errors : k'.errorCount = k.errorCount) (queue : k'.queue.length ≤ k.queue.length) (line : k'.line ≠ .owner)
    (sending : k'.sending = none) : LinkKeeps k k' :=
  ⟨fun h => ⟨faults h, errors ▸ h.2.1, Nat.le_trans queue h.2.2⟩,
    fun _ => ⟨fun owner => absurd owner line, fun some => by simp [sending] at some⟩⟩

/-! ### Frames sent -/

theorem Link.released_sending (k : Link) : k.released.sending = none := by
  unfold Link.released
  split <;> rfl

theorem Link.released_counts (k : Link) :
    k.released.faultCount = k.faultCount ∧ k.released.errorCount = k.errorCount ∧ k.released.queue = k.queue := by
  unfold Link.released
  split <;> exact ⟨rfl, rfl, rfl⟩

theorem Link.disposed_sending (k : Link) (f : Frame) : (k.disposed f).sending = none := by
  cases f <;> rfl

theorem Link.disposed_counts (k : Link) (f : Frame) :
    (k.disposed f).faultCount = k.faultCount ∧ (k.disposed f).errorCount = k.errorCount ∧
      (k.disposed f).queue.length ≤ k.queue.length := by
  cases f <;> simp [Link.disposed]

theorem execLineJammed_keeps {s t : State} (next : execLineJammed s = .next t) : LinkKeeps s.link t.link := by
  obtain ⟨faults, errors, queue⟩ := s.link.released_counts
  cases next
  split
  · exact .refl _
  · exact .of_ended (fun h => faults.symm ▸ h.1) errors (Nat.le_of_eq (congrArg List.length queue)) (by simp) s.link.released_sending

theorem execArbitrationLoss_keeps {s t : State} (next : execArbitrationLoss s = .next t) :
    LinkKeeps s.link t.link := by
  obtain ⟨faults, errors, queue⟩ := s.link.released_counts
  cases next
  split
  · exact .of_ended (fun h => faults.symm ▸ h.1) errors (Nat.le_of_eq (congrArg List.length queue)) (by simp) s.link.released_sending
  · exact .refl _

theorem execBitFault_keeps {s t : State} (next : execBitFault s = .next t) : LinkKeeps s.link t.link := by
  cases next
  split
  case h_1 f _ sending =>
    obtain ⟨_, errors, queue⟩ := s.link.disposed_counts f
    simp only [State.raiseIf_frame]
    exact .of_ended (fun _ => Nat.min_le_left _ _) errors queue (by simp) (s.link.disposed_sending f)
  case h_2 => exact .refl _

theorem execFrameBegin_keeps {s t : State} (next : execFrameBegin s = .next t) : LinkKeeps s.link t.link := by
  cases next
  split
  · split
    · exact ⟨fun h => h, fun _ => ⟨fun _ => rfl, fun _ => rfl⟩⟩
    · exact .refl _
  · exact .refl _

theorem execIdleIntervalComplete_keeps {s t : State} (next : execIdleIntervalComplete s = .next t) :
    LinkKeeps s.link t.link := by
  have idle (other : s.link.line ≠ .owner) :
      LinkKeeps s.link { s.link with line := .idle, receiving := false } :=
    ⟨fun h => h, fun owned => ⟨fun h => by simp at h, fun sending => absurd (owned.mpr sending) other⟩⟩
  cases next
  split
  case h_1 line => exact idle (by simp [line])
  case h_2 line => exact idle (by simp [line])
  case h_3 line => exact idle (by simp [line])
  all_goals exact .refl _

theorem execDominantEdgeSeen_keeps {s t : State} (next : execDominantEdgeSeen s = .next t) :
    LinkKeeps s.link t.link := by
  cases next
  split
  case isTrue idle =>
    exact ⟨fun h => h, fun owned => ⟨fun h => by simp at h, fun sending => absurd (owned.mpr sending) (by simp [idle])⟩⟩
  case isFalse => exact .refl _

theorem execFrameReceiveError_keeps {e : ReceiveError} {s t : State} (next : execFrameReceiveError e s = .next t) :
    LinkKeeps s.link t.link := by
  cases next
  split
  · exact ⟨fun h => ⟨h.1, satAdd_le _ _ _, h.2.2⟩, fun h => h⟩
  · exact .refl _

/-! ### Requests on the link -/

theorem sendDirectiveRequest_keeps (role code : Byte) (arg : List Byte) (s : State) :
    LinkKeeps s.link (sendDirectiveRequest role code arg s).2.link := by
  unfold sendDirectiveRequest
  (repeat' split)
  case isFalse room =>
    refine ⟨fun h => ⟨h.1, h.2.1, ?_⟩, fun h => h⟩
    rw [List.length_append]
    exact Nat.lt_of_not_le room
  all_goals exact .refl _

theorem unmuteRequest_keeps (s : State) : LinkKeeps s.link (unmuteRequest s).2.link := by
  unfold unmuteRequest
  split
  · exact .refl _
  · exact ⟨fun h => ⟨Nat.zero_le _, h.2⟩, fun h => h⟩

end Sys2Proof.Machine
end

section
/-! SUPPORT. The traffic of the link under the commands of the other blocks, and the link's invariants along every
step. -/

namespace Sys2Proof.Machine

/-- The traffic of the link is as it was. -/
def State.TrafficKept (s t : State) : Prop := t.link.traffic = s.link.traffic

theorem State.TrafficKept.trans {s t u : State} (a : s.TrafficKept t) (b : t.TrafficKept u) : s.TrafficKept u :=
  Eq.trans b a

theorem State.TrafficKept.of_link {s t : State} (same : t.link = s.link) : s.TrafficKept t :=
  congrArg Link.traffic same

/-- A settling after a change that keeps the traffic. -/
theorem State.TrafficKept.settle {s t : State} (h : s.TrafficKept t) : s.TrafficKept t.settle :=
  h.trans (State.settle_traffic t)

/-! ### Requests -/

theorem holdRequest_traffic (s : State) : s.TrafficKept (holdRequest s).2 := by
  unfold holdRequest
  split
  · exact .settle (State.placeReason_traffic _ s)
  · exact .of_link rfl

theorem releaseHoldRequest_traffic (reason : Byte) (s : State) : s.TrafficKept (releaseHoldRequest reason s).2 := by
  unfold releaseHoldRequest
  (repeat' split)
  case h_2.isFalse.isFalse => exact .settle (State.removeReason_traffic _ s)
  all_goals exact .of_link rfl

theorem clearHoldRequest_traffic (station : Byte) (s : State) : s.TrafficKept (clearHoldRequest station s).2 := by
  unfold clearHoldRequest
  (repeat' split)
  case h_1.isTrue => exact .settle (.of_link (by simp))
  all_goals exact .of_link rfl

theorem State.startCycle_link {k : CycleKind} {s t : State} (h : s.startCycle k = .ok t) : t.link = s.link := by
  rw [State.startCycle_frame' h]

theorem cycleRequest_traffic (k : CycleKind) (s : State) : s.TrafficKept (cycleRequest k s).2 := by
  unfold cycleRequest
  split
  · exact .of_link rfl
  · split
    · exact .of_link rfl
    · split
      case h_1 => exact .of_link rfl
      case h_2 started => exact .settle (.of_link (State.startCycle_link started))

theorem tripRequest_traffic (k : CycleKind) (count : Byte) (s : State) : s.TrafficKept (tripRequest k count s).2 := by
  unfold tripRequest
  dsimp only
  (repeat' split)
  case h_2 started =>
    have same := State.startCycle_link started
    exact .settle (.of_link same)
  all_goals exact .of_link rfl

theorem resumeRequest_traffic (s : State) : s.TrafficKept (resumeRequest s).2 := by
  unfold resumeRequest
  dsimp only
  (repeat' split)
  case h_2 started =>
    have same := State.startCycle_link started
    exact .settle (.of_link same)
  all_goals exact .of_link rfl

theorem retryStepRequest_traffic (s : State) : s.TrafficKept (retryStepRequest s).2 := by
  unfold retryStepRequest
  split
  · refine .settle (.trans (State.removeReason_traffic .handlingFault s) (.of_link ?_))
    simp
  · exact .of_link rfl

theorem abortRequest_traffic (s : State) : s.TrafficKept (abortRequest s).2 := by
  have released (u : State) (h : s.TrafficKept u) (q r : Sequencer) :
      s.TrafficKept (if u.inventory.transit.isNone then { u with seq := q }
        else ({ u with seq := r } : State).writeMarker) := by
    split
    · exact h
    · exact h.trans (.of_link (by simp))
  have freed : s.TrafficKept (if s.seq.state = .faulted then s.removeReason .handlingFault else s) := by
    split
    · exact State.removeReason_traffic _ s
    · exact .of_link rfl
  unfold abortRequest
  split
  · exact .of_link rfl
  · exact released _ freed _ _

theorem confirmRecoveryRequest_traffic (s : State) : s.TrafficKept (confirmRecoveryRequest s).2 := by
  unfold confirmRecoveryRequest
  (repeat' split)
  case isFalse.isFalse => exact State.removeReason_traffic .recovery _
  all_goals exact .of_link rfl

theorem State.dropOwnEntry_link (s : State) : s.dropOwnEntry.link = s.link := by
  unfold State.dropOwnEntry
  split
  · simp
  · rfl

theorem State.started_traffic (s : State) : s.TrafficKept s.started := by
  have listening (u : State) (h : s.TrafficKept u) : s.TrafficKept (u.yieldRoles u.claimedBelow).dropOwnEntry :=
    (h.trans (State.yieldRoles_traffic _ u)).trans (.of_link (State.dropOwnEntry_link _))
  have scanned (u : State) (h : s.TrafficKept u) : s.TrafficKept (if u.active .head then u.beginScan else u) := by
    split
    · exact h.trans (.of_link (by simp))
    · exact h
  exact scanned _ (listening _ rfl)

/-! ### Events -/

theorem State.balancePeriod_traffic (c : MudConfig) (s : State) : s.TrafficKept (s.balancePeriod c) := by
  unfold State.balancePeriod
  dsimp only
  split
  · exact .trans (.of_link (by simp)) (State.placeReason_traffic _ _)
  · exact .of_link (by simp)

theorem State.allDue_traffic (s : State) : s.TrafficKept s.allDue := rfl

theorem State.handlerEntry_traffic (s : State) : s.TrafficKept s.handlerEntry := by
  unfold State.handlerEntry
  split
  · exact State.enterRecover_traffic s
  · exact .of_link rfl

theorem State.enterRunning_traffic (s : State) : s.TrafficKept s.enterRunning := by
  have entered (u : State) (h : s.TrafficKept u) :
      s.TrafficKept u.handlerEntry.mudEntry.headEntry.cabEntry.allDue :=
    (h.trans (State.handlerEntry_traffic u)).trans (.trans (.of_link
      ((cabEntry_touches _ .link (by simp)).trans ((headEntry_touches _ .link (by simp)).trans
        (mudEntry_touches _ .link (by simp))))) (State.allDue_traffic _))
  exact entered _ rfl

theorem State.yieldTo_traffic (st : Station) (claimed : Role → Bool) (s : State) :
    s.TrafficKept (s.yieldTo st claimed) := by
  unfold State.yieldTo
  split
  · exact State.yieldRoles_traffic _ s
  · exact .of_link rfl

theorem State.announcementArrival_traffic (st : Station) (a : Announcement) (s : State) :
    s.TrafficKept (s.announcementArrival st a) :=
  State.announcementArrival_rel (R := State.TrafficKept) State.TrafficKept.trans st a
    (fun _ _ => .of_link (by simp)) (fun u f => State.yieldTo_traffic st f u) (fun _ => .of_link (by simp))
    State.settle_traffic s

theorem State.presenceArrival_traffic (st : Station) (p : Presence) (s : State) :
    s.TrafficKept (s.presenceArrival st p) :=
  State.presenceArrival_rel (R := State.TrafficKept) State.TrafficKept.trans st p
    (fun _ _ => .of_link (by simp)) (fun u f => State.yieldTo_traffic st f u) (fun _ _ => .of_link (by simp))
    State.settle_traffic s

theorem State.completedFrame_traffic (own : Station) (f : Frame) (s : State) :
    s.TrafficKept (s.completedFrame own f) := by
  cases f with
  | holdSet | holdRelease => exact .of_link rfl
  | directive d => exact .of_link (routeDirective_touches own d s .link (by simp [directiveBlocks]))
  | announce a => exact State.announcementArrival_traffic own a s
  | presence p => exact State.presenceArrival_traffic own p s

/-- Reception ends; what a frame's delivery keeps of the traffic is kept. -/
theorem State.deliver_traffic (source : Station) (s : State) {f : State → State}
    (h : ∀ u : State, u.TrafficKept (f u)) : s.TrafficKept (s.deliver source f) := by
  rcases s.deliver_cases source f with same | clash | delivered
  · exact .of_link (by rw [same])
  · rw [clash]
    rfl
  · rw [delivered]
    exact .trans (t := s.frameEnded) rfl (h s.frameEnded)

theorem execSlotLost_traffic {st : Station} {slot : SlotName} {s t : State}
    (next : execSlotLost st slot s = .next t) : s.TrafficKept t := by
  cases next
  dsimp only
  split
  · split
    · exact .settle (.of_link (by simp))
    · exact .settle (.of_link (by split <;> simp))
  · exact .of_link rfl

theorem execBalancePeriodExpiry_traffic {s t : State} (next : execBalancePeriodExpiry s = .next t) :
    s.TrafficKept t := by
  cases next
  (repeat' split)
  · exact .trans (.of_link (by simp)) (State.balancePeriod_traffic _ _)
  all_goals exact .of_link rfl

theorem execStepTimerExpiry_traffic {s t : State} (next : execStepTimerExpiry s = .next t) : s.TrafficKept t := by
  cases next
  split
  · exact State.cycleFault_traffic .timeout { s with seq := { s.seq with timer := 0 } }
  · exact .of_link rfl

theorem execSendPeriodExpiry_traffic {s t : State} (next : execSendPeriodExpiry s = .next t) : s.TrafficKept t := by
  cases next
  split <;> rfl

theorem execHoldSilenceExpiry_traffic {st : Station} {s t : State} (next : execHoldSilenceExpiry st s = .next t) :
    s.TrafficKept t := by
  cases next
  (repeat' split)
  · exact .of_link (by simp)
  all_goals exact .of_link rfl

theorem execStationClash_traffic {s t : State} (next : execStationClash s = .next t) : s.TrafficKept t := by
  cases next
  split <;> rfl

/-! ### Every command -/

theorem Link.atReset_keeps (k : Link) : LinkKeeps k .atReset := by
  have counts : Link.atReset.countsKept := by decide
  have owned : Link.atReset.owned := by decide
  exact ⟨fun _ => counts, fun _ => owned⟩

theorem State.powerOn_link (valid : Bool) (s : State) : (s.powerOn valid).link = .atReset := by
  unfold State.powerOn
  dsimp only
  split <;> rfl

/-- What FRAME_COMPLETE does to the link before the frame is handed on (R31). -/
theorem Link.completed_keeps (k : Link) (f : Frame) :
    LinkKeeps k { k.disposed f with line := .busy, receiving := false, faultCount := 0 } := by
  obtain ⟨_, errors, queue⟩ := k.disposed_counts f
  exact .of_ended (fun _ => Nat.zero_le _) errors queue (by simp) (k.disposed_sending f)

/-- Every command keeps the link's invariants. -/
theorem exec_keepsLink {i : Instr} {s t : State} (next : exec i s = .next t) : LinkKeeps s.link t.link := by
  by_cases touched : .link ∈ footprint i
  · have request {i : Instr} {r : Role} {f : State → Answered} (h : s.TrafficKept (f s).2) :
        LinkKeeps s.link (State.answer i (s.runningRequest r f)).link :=
      .of_traffic (runningRequest_keeps (P := s.TrafficKept) (.of_link rfl) fun _ => h)
    have common {i : Instr} {a : Answered} (h : s.TrafficKept a.2) : LinkKeeps s.link (State.answer i a).link :=
      .of_traffic h
    cases i with
    | powerOnReset kept => cases next; rw [State.powerOn_link]; exact Link.atReset_keeps _
    | reset => cases next; exact Link.atReset_keeps _
    | hold => cases next; exact common (holdRequest_traffic s)
    | releaseHold reason => cases next; exact common (releaseHoldRequest_traffic reason s)
    | clearHold st => cases next; exact common (clearHoldRequest_traffic st s)
    | makeup => cases next; exact request (cycleRequest_traffic .makeup s)
    | breakout => cases next; exact request (cycleRequest_traffic .breakout s)
    | tripIn count => cases next; exact request (tripRequest_traffic .makeup count s)
    | tripOut count => cases next; exact request (tripRequest_traffic .breakout count s)
    | resume => cases next; exact request (resumeRequest_traffic s)
    | retryStep => cases next; exact request (retryStepRequest_traffic s)
    | abort => cases next; exact request (abortRequest_traffic s)
    | confirmRecovery => cases next; exact request (confirmRecoveryRequest_traffic s)
    | sendDirective role code arg => cases next; exact sendDirectiveRequest_keeps role code arg s
    | unmute => cases next; exact unmuteRequest_keeps s
    | start =>
      cases next
      refine common ?_
      unfold startRequest
      split
      · exact .of_link rfl
      · exact State.started_traffic s
    | frameBegin => exact execFrameBegin_keeps next
    | arbitrationLoss => exact execArbitrationLoss_keeps next
    | bitFault => exact execBitFault_keeps next
    | frameReceiveError e => exact execFrameReceiveError_keeps (e := e) next
    | idleIntervalComplete => exact execIdleIntervalComplete_keeps next
    | dominantEdgeSeen => exact execDominantEdgeSeen_keeps next
    | lineJammed => exact execLineJammed_keeps next
    | stationClash => exact .of_traffic (execStationClash_traffic next)
    | sendPeriodExpiry => exact .of_traffic (execSendPeriodExpiry_traffic next)
    | frameComplete =>
      rcases execFrameComplete_cases next with rfl | ⟨own, f, u, _, _, _, rfl, rfl⟩
      · exact .refl _
      · exact (Link.completed_keeps s.link f).trans (.of_traffic (State.completedFrame_traffic own f _))
    | presenceReceived source content =>
      cases next; exact .of_traffic (State.deliver_traffic source s (State.presenceArrival_traffic source content))
    | announcementReceived source content =>
      cases next; exact .of_traffic (State.deliver_traffic source s (State.announcementArrival_traffic source content))
    | holdSetReceived source reason =>
      cases next; exact .of_traffic (State.deliver_traffic source s fun u => .of_link (by simp))
    | holdReleaseReceived source =>
      cases next; exact .of_traffic (State.deliver_traffic source s fun u => .settle (.of_link (by simp)))
    | directiveReceived source directive =>
      cases next
      exact .of_traffic (State.deliver_traffic source s fun u =>
        .of_link (routeDirective_touches source directive u .link (by simp [directiveBlocks])))
    | slotLost st slot => exact .of_traffic (execSlotLost_traffic next)
    | holdSilenceExpiry st => exact .of_traffic (execHoldSilenceExpiry_traffic next)
    | listenTimerExpiry =>
      cases next
      split
      · exact .of_traffic (State.enterRunning_traffic s)
      · exact .refl _
    | stepTimerExpiry => exact .of_traffic (execStepTimerExpiry_traffic next)
    | balancePeriodExpiry => exact .of_traffic (execBalancePeriodExpiry_traffic next)
    | handlerInputChange input level =>
      cases next; exact .of_traffic (State.settle_traffic { s with pins := s.pins.setHandler input level })
    | _ => simp [footprint] at touched
  · rw [exec_touches next .link touched]
    exact .refl _

end Sys2Proof.Machine

namespace Sys2Proof

open Machine

/-! ### The obligation -/

/-- Settles O58: only the link's own rows touch its traffic; each keeps the counts at their limits, and a frame comes
into transmission with OWNER and leaves with it. -/
theorem linkStaysConsistent : Obligations.LinkStaysConsistent := by
  intro s t next
  rcases step_cases next with ⟨_, rfl⟩ | ⟨c, rest, _, run⟩
  · rw [idle_touches s .link (by simp)]
    exact LinkKeeps.refl _
  · have keeps := exec_keepsLink run
    exact keeps

end Sys2Proof
end

section
/-! SUPPORT. The handling cycle as its invariants read it (R69, R86), what each operation of the sequencer makes of it,
and why six steps settle the sequencer (R70). -/

namespace Sys2Proof.Machine

/-! ### The cycle -/

/-- What the invariants of R69 and R86 read: the cycle, its marker, and the rod in the transit position. -/
structure Cycle where
  state : SeqState
  kind : CycleKind
  step : Option Step
  slot : Option RackSlot
  fault : Option FaultCause
  marker : Option CycleMarker
  rod : Option Nat

/-- The cycle of a state. -/
def State.cycle (s : State) : Cycle :=
  ⟨s.seq.state, s.seq.kind, s.seq.step, s.seq.slot, s.seq.fault, s.seq.marker, s.inventory.transit.map (·.id)⟩

/-- R69 on a cycle. -/
def Cycle.stepKept (c : Cycle) : Prop :=
  (c.state = .idle ↔ c.step = none) ∧ (c.state = .idle ↔ c.slot = none) ∧
  (c.state = .faulted ↔ c.fault.isSome = true) ∧ (c.state = .idle → c.kind = .none)

/-- R86 on a cycle. -/
def Cycle.markerKept (c : Cycle) : Prop :=
  c.state = .active ∨ c.state = .faulted ∨ c.state = .transitHeld →
    c.marker.map (·.kind) = some c.kind ∧ c.marker.map (·.step) = c.step ∧
    c.marker.map (·.state) = some c.state ∧ c.marker.map (·.slot) = c.slot ∧ c.marker.bind (·.rod) = c.rod

theorem State.stepKept_iff (s : State) : s.seq.stepKept ↔ s.cycle.stepKept := Iff.rfl

theorem State.markerKept_iff (s : State) : s.markerKept ↔ s.cycle.markerKept := Iff.rfl

/-- A cycle at a step, with the marker written as it stands. -/
def Cycle.at (state : SeqState) (kind : CycleKind) (st : Step) (i : RackSlot) (fault : Option FaultCause)
    (rod : Option Nat) : Cycle :=
  ⟨state, kind, some st, some i, fault, some ⟨kind, st, state, i, rod⟩, rod⟩

/-- No cycle. -/
def Cycle.idle (rod : Option Nat) : Cycle := ⟨.idle, .none, none, none, none, none, rod⟩

theorem Cycle.at_stepKept {state : SeqState} {kind : CycleKind} {st : Step} {i : RackSlot} {fault : Option FaultCause}
    {rod : Option Nat} (going : state ≠ .idle) (faulted : state = .faulted ↔ fault.isSome = true) :
    (Cycle.at state kind st i fault rod).stepKept := by
  simp [Cycle.stepKept, Cycle.at, going, faulted]

theorem Cycle.at_markerKept (state : SeqState) (kind : CycleKind) (st : Step) (i : RackSlot)
    (fault : Option FaultCause) (rod : Option Nat) : (Cycle.at state kind st i fault rod).markerKept := by
  simp [Cycle.markerKept, Cycle.at]

theorem Cycle.idle_stepKept (rod : Option Nat) : (Cycle.idle rod).stepKept := by
  simp [Cycle.stepKept, Cycle.idle]

theorem Cycle.markerKept_of_out {c : Cycle} (active : c.state ≠ .active) (faulted : c.state ≠ .faulted)
    (held : c.state ≠ .transitHeld) : c.markerKept := by
  simp [Cycle.markerKept, active, faulted, held]

theorem Cycle.idle_markerKept (rod : Option Nat) : (Cycle.idle rod).markerKept :=
  Cycle.markerKept_of_out (by simp [Cycle.idle]) (by simp [Cycle.idle]) (by simp [Cycle.idle])

/-- A cycle under way has its step and its slot. -/
theorem Sequencer.stepKept.under_way {q : Sequencer} (kept : q.stepKept) (going : q.state ≠ .idle) :
    ∃ st i, q.step = some st ∧ q.slot = some i := by
  obtain ⟨step, slot, _, _⟩ := kept
  obtain ⟨st, at_step⟩ := Option.ne_none_iff_exists'.mp fun none => going (step.mpr none)
  obtain ⟨i, at_slot⟩ := Option.ne_none_iff_exists'.mp fun none => going (slot.mpr none)
  exact ⟨st, i, at_step, at_slot⟩

/-- Outside FAULTED there is no fault cause. -/
theorem Sequencer.stepKept.no_fault {q : Sequencer} (kept : q.stepKept) (sound : q.state ≠ .faulted) :
    q.fault = none := by
  obtain ⟨_, _, fault, _⟩ := kept
  simpa using fun some => sound (fault.mpr some)

/-! ### Operations that leave the cycle -/

@[simp] theorem State.raise_cycle (c : Cause) (s : State) : (s.raise c).cycle = s.cycle := rfl

@[simp] theorem State.raiseIf_cycle (b : Bool) (c : Cause) (s : State) : (s.raiseIf b c).cycle = s.cycle := by
  simp [State.cycle]

@[simp] theorem State.heldEdge_cycle (s : State) : s.heldEdge.cycle = s.cycle := by
  unfold State.heldEdge
  split <;> rfl

@[simp] theorem State.withHolds_cycle (h : Holds) (b : Bool) (s : State) : (s.withHolds h b).cycle = s.cycle := by
  unfold State.withHolds
  dsimp only
  split
  · rw [State.heldEdge_cycle, State.raiseIf_cycle]; rfl
  · rw [State.raiseIf_cycle]; rfl

@[simp] theorem State.setReasons_cycle (r : ReasonSet) (s : State) : (s.setReasons r).cycle = s.cycle := by
  unfold State.setReasons
  dsimp only
  split
  · rfl
  · rw [State.withHolds_cycle]
    split <;> rfl

@[simp] theorem State.placeReason_cycle (r : HoldReason) (s : State) : (s.placeReason r).cycle = s.cycle :=
  s.setReasons_cycle _

@[simp] theorem State.removeReason_cycle (r : HoldReason) (s : State) : (s.removeReason r).cycle = s.cycle :=
  s.setReasons_cycle _

@[simp] theorem State.setEntry_cycle (st : Station) (e : Option HoldEntry) (s : State) :
    (s.setEntry st e).cycle = s.cycle :=
  s.withHolds_cycle _ _

@[simp] theorem State.holdReport_cycle (st : Station) (reason : Option Byte) (s : State) :
    (s.holdReport st reason).cycle = s.cycle :=
  s.setEntry_cycle _ _

@[simp] theorem State.orphan_cycle (st : Station) (s : State) : (s.orphan st).cycle = s.cycle := by
  unfold State.orphan
  split
  · exact s.setEntry_cycle _ _
  · rfl

@[simp] theorem State.withPeers_cycle (peers : Vector PeerEntry 8) (s : State) : (s.withPeers peers).cycle = s.cycle := by
  unfold State.withPeers State.mudOwnerChanged
  dsimp only
  split
  · rfl
  · simp only [State.cycle]
    split <;> rfl

@[simp] theorem State.mapPeer_cycle (st : Station) (f : PeerEntry → PeerEntry) (s : State) :
    (s.mapPeer st f).cycle = s.cycle :=
  s.withPeers_cycle _

@[simp] theorem State.sequencerMudArrival_cycle (a : MudAnnounce) (s : State) :
    (s.sequencerMudArrival a).cycle = s.cycle := by
  unfold State.sequencerMudArrival
  split <;> rfl

/-- Equal sequencers and racks have equal cycles. -/
theorem State.cycle_congr {s t : State} (seq : t.seq = s.seq) (inventory : t.inventory = s.inventory) :
    t.cycle = s.cycle := by
  simp [State.cycle, seq, inventory]

@[simp] theorem State.readArrival_cycle (s : State) (a : Announcement) : (s.readArrival a).cycle = s.cycle := by
  have mud (m : MudAnnounce) : ((s.readArrival (.mud m)).seq = (s.sequencerMudArrival m).seq) := by
    unfold State.readArrival
    dsimp only
    split <;> simp
  have others (a : Announcement) (h : ∀ m, a ≠ .mud m) : (s.readArrival a).seq = s.seq := by
    cases a with
    | mud m => exact absurd rfl (h m)
    | handler m =>
      have head (u : State) : (u.asHead fun c => u.depthHandlerArrival c m).seq = u.seq :=
        asHead_touches (bs := [.depth, .log, .causes]) (.refl _ u) (fun c => by simp [touches_iff]) .seq (by simp)
      unfold State.readArrival; dsimp only; split <;> simp [head]
    | head m => simp [State.readArrival]
    | cab m => rfl
  cases a with
  | mud m => rw [State.cycle_congr (mud m) (by simp), State.sequencerMudArrival_cycle]
  | handler m => exact State.cycle_congr (others _ nofun) (by simp)
  | head m => exact State.cycle_congr (others _ nofun) (by simp)
  | cab m => rfl

/-! ### Operations on the cycle -/

theorem State.writeMarker_cycle {s : State} {st : Step} {i : RackSlot} (step : s.seq.step = some st)
    (slot : s.seq.slot = some i) :
    s.writeMarker.cycle = .at s.seq.state s.seq.kind st i s.seq.fault (s.inventory.transit.map (·.id)) := by
  simp only [State.writeMarker, step, slot]
  simp [State.cycle, Cycle.at, step, slot]

theorem State.enterStep_cycle {s : State} {i : RackSlot} (st : Step) (slot : s.seq.slot = some i) :
    (s.enterStep st).cycle = .at s.seq.state s.seq.kind st i s.seq.fault (s.inventory.transit.map (·.id)) :=
  State.writeMarker_cycle rfl slot

theorem State.cycleFault_cycle {s : State} {st : Step} {i : RackSlot} (cause : FaultCause)
    (step : s.seq.step = some st) (slot : s.seq.slot = some i) :
    (s.cycleFault cause).cycle = .at .faulted s.seq.kind st i (some cause) (s.inventory.transit.map (·.id)) := by
  unfold State.cycleFault
  rw [State.placeReason_cycle, State.raise_cycle]
  exact State.writeMarker_cycle step slot

/-- A cycle just started, at SLIPS (R74). -/
def Cycle.begun (k : CycleKind) (i : RackSlot) (rod : Option Nat) : Cycle := .at .active k .slips i none rod

theorem State.startCycle_cycle {k : CycleKind} {s t : State} (started : s.startCycle k = .ok t) :
    ∃ i, t.cycle = .begun k i (s.inventory.transit.map (·.id)) := by
  unfold State.startCycle at started
  dsimp only at started
  (repeat' split at started) <;> cases started <;> exact ⟨_, State.enterStep_cycle _ rfl⟩

/-- Going on with a plan leaves the sequencer idle or starts the next cycle (R75). -/
theorem State.planNext_cycle {s : State} {rod : Option Nat} (idle : s.cycle = .idle rod) :
    s.planNext.cycle = .idle rod ∨ ∃ k i, s.planNext.cycle = .begun k i rod := by
  have at_rod : s.inventory.transit.map (·.id) = rod := congrArg Cycle.rod idle
  unfold State.planNext
  dsimp only
  (repeat' split)
  case h_1 started =>
    obtain ⟨i, begun⟩ := State.startCycle_cycle started
    rw [begun]
    exact .inr ⟨_, i, congrArg _ at_rod⟩
  all_goals exact .inl idle

theorem State.completeCycle_cycle (s : State) :
    s.completeCycle.cycle = .idle (s.inventory.transit.map (·.id)) ∨
      ∃ k i, s.completeCycle.cycle = .begun k i (s.inventory.transit.map (·.id)) := by
  unfold State.completeCycle
  refine State.planNext_cycle ?_
  cases s.seq.kind <;> rfl

/-- Entering RECOVER takes the cycle from the marker, if there is one (R87). -/
theorem State.enterRecover_cycle (s : State) :
    (s.seq.marker = none ∧ s.enterRecover = s) ∨
      ∃ m, s.seq.marker = some m ∧ s.enterRecover.cycle =
        ⟨.recover, m.kind, some m.step, some m.slot, none, some m, s.inventory.transit.map (·.id)⟩ := by
  unfold State.enterRecover
  split
  case h_1 none => exact .inl ⟨none, rfl⟩
  case h_2 m marker =>
    refine .inr ⟨m, marker, ?_⟩
    rw [State.placeReason_cycle]
    simp [State.cycle, marker]

/-! ### The cycle kept -/

/-- What a part of a command must do: the invariants of R69 and R86 go on. -/
def State.CycleKept (s t : State) : Prop :=
  s.cycle.stepKept → t.cycle.stepKept ∧ (s.cycle.markerKept → t.cycle.markerKept)

theorem State.CycleKept.of_same {s t : State} (same : t.cycle = s.cycle) : s.CycleKept t := by
  simp [State.CycleKept, same]

theorem State.CycleKept.trans {s t u : State} (a : s.CycleKept t) (b : t.CycleKept u) : s.CycleKept u :=
  fun kept => ⟨(b (a kept).1).1, fun marked => (b (a kept).1).2 ((a kept).2 marked)⟩

theorem State.CycleKept.of_idle {s t : State} {rod : Option Nat} (idle : t.cycle = .idle rod) : s.CycleKept t := by
  rw [State.CycleKept, idle]
  exact fun _ => ⟨Cycle.idle_stepKept rod, fun _ => Cycle.idle_markerKept rod⟩

/-- A cycle brought to a step, with the marker written. -/
theorem State.CycleKept.of_at {s t : State} {state : SeqState} {fault : Option FaultCause} (going : state ≠ .idle)
    (faulted : state = .faulted ↔ fault.isSome = true)
    (at_step : s.cycle.stepKept → ∃ kind st i rod, t.cycle = .at state kind st i fault rod) : s.CycleKept t := by
  intro kept
  obtain ⟨_, _, _, _, cycle⟩ := at_step kept
  rw [cycle]
  exact ⟨Cycle.at_stepKept going faulted, fun _ => Cycle.at_markerKept _ _ _ _ _ _⟩

theorem State.CycleKept.of_begun {s t : State} {k : CycleKind} {i : RackSlot} {rod : Option Nat}
    (begun : t.cycle = .begun k i rod) : s.CycleKept t :=
  .of_at (state := .active) (fault := none) (by simp) (by simp) fun _ => ⟨k, .slips, i, rod, begun⟩

theorem State.cycleFault_keepsCycle {s : State} (cause : FaultCause) (going : s.seq.state ≠ .idle) :
    s.CycleKept (s.cycleFault cause) := by
  refine .of_at (state := .faulted) (fault := some cause) (by simp) (by simp) fun kept => ?_
  obtain ⟨st, i, step, slot⟩ := Sequencer.stepKept.under_way kept going
  exact ⟨_, st, i, _, State.cycleFault_cycle cause step slot⟩

/-- A step entered in a cycle under way, whatever the move before it has done to the rods. -/
theorem State.enterStep_keepsCycle {s u : State} (st : Step) (seq : u.seq = s.seq) (going : s.seq.state ≠ .idle) :
    s.CycleKept (u.enterStep st) := by
  intro kept
  obtain ⟨_, i, _, slot⟩ := Sequencer.stepKept.under_way kept going
  obtain ⟨_, _, fault, _⟩ := kept
  rw [State.enterStep_cycle st (seq ▸ slot), seq]
  exact ⟨Cycle.at_stepKept going fault, fun _ => Cycle.at_markerKept _ _ _ _ _ _⟩

theorem State.completeCycle_keepsCycle (s u : State) : s.CycleKept u.completeCycle := by
  rcases u.completeCycle_cycle with idle | ⟨k, i, begun⟩
  · exact .of_idle idle
  · exact .of_begun begun

theorem State.enterRecover_keepsCycle (s : State) : s.CycleKept s.enterRecover := by
  rcases s.enterRecover_cycle with ⟨_, same⟩ | ⟨m, _, recover⟩
  · exact .of_same (congrArg _ same)
  · rw [State.CycleKept, recover]
    exact fun _ => ⟨by simp [Cycle.stepKept], fun _ => Cycle.markerKept_of_out (by simp) (by simp) (by simp)⟩

theorem State.endStep_keepsCycle {s : State} (going : s.seq.state ≠ .idle) : s.CycleKept s.endStep := by
  unfold State.endStep
  split
  · exact .of_same rfl
  · split
    · exact State.cycleFault_keepsCycle _ going
    · dsimp only
      split
      · exact State.enterStep_keepsCycle _ rfl going
      · exact State.completeCycle_keepsCycle _ _

theorem State.settleSteps_keepsCycle (n : Nat) (s : State) : s.CycleKept (s.settleSteps n) := by
  induction n generalizing s with
  | zero => exact .of_same rfl
  | succ n ih =>
    unfold State.settleSteps
    split
    case isTrue due =>
      simp only [Bool.and_eq_true, beq_iff_eq] at due
      obtain ⟨⟨_, active⟩, _⟩ := due
      exact (State.endStep_keepsCycle (by simp [active])).trans (ih _)
    case isFalse => exact .of_same rfl

theorem State.settle_keepsCycle (s : State) : s.CycleKept s.settle := State.settleSteps_keepsCycle 6 s

/-! ### Six steps settle the sequencer -/

/-- A bound on the steps that can end in turn from a step on: no chain passes the entry of BREAK, where the locked mark
is cleared, and RELEASE and SLIPS wait for opposite levels (R71, R72, R84). -/
def chainOf : Step → Nat
  | .breakJoint => 6
  | .load => 5
  | .joint | .lift => 4
  | .drive => 3
  | .store => 2
  | .release | .slips => 1

/-- The bound for the current step. -/
def State.chain (s : State) : Nat := (s.seq.step.map chainOf).getD 0

theorem State.chain_le (s : State) : s.chain ≤ 6 := by
  have bound (st : Step) : chainOf st ≤ 6 := by cases st <;> decide
  unfold State.chain
  cases s.seq.step with
  | none => decide
  | some st => exact bound st

theorem nextStep_chain {k : CycleKind} {st next : Step} (follows : nextStep k st = some next) :
    next = .breakJoint ∨ chainOf next < chainOf st := by
  cases st <;> simp only [nextStep] at follows
  case breakJoint | drive => split at follows <;> cases follows <;> exact .inr (by decide)
  case release => cases follows
  all_goals
    cases follows
    decide

theorem nextStep_eq_none {k : CycleKind} {st : Step} (last : nextStep k st = none) : st = .release := by
  cases st <;> simp only [nextStep] at last
  case breakJoint | drive => split at last <;> cases last
  all_goals cases last
  rfl

@[simp] theorem State.writeMarker_lockedMark (s : State) : s.writeMarker.seq.lockedMark = s.seq.lockedMark := by
  unfold State.writeMarker
  split <;> rfl

/-- The state of the sequencer that has not entered ACTIVE is settled. -/
theorem State.stepsTaken_of_state {s : State} (still : s.seq.state ≠ .active) : s.stepsTaken :=
  fun _ active => absurd active still

theorem State.seqState_of_cycle {s : State} {c : Cycle} (eq : s.cycle = c) : s.seq.state = c.state := eq ▸ rfl

theorem State.seqStep_of_cycle {s : State} {c : Cycle} (eq : s.cycle = c) : s.seq.step = c.step := eq ▸ rfl

@[simp] theorem State.writeMarker_seqState (s : State) : s.writeMarker.seq.state = s.seq.state := by
  unfold State.writeMarker
  split <;> rfl

@[simp] theorem State.writeMarker_seqStep (s : State) : s.writeMarker.seq.step = s.seq.step := by
  unfold State.writeMarker
  split <;> rfl

theorem State.cycleFault_state (cause : FaultCause) (s : State) : (s.cycleFault cause).seq.state = .faulted := by
  unfold State.cycleFault
  rw [State.seqState_of_cycle (State.placeReason_cycle _ _)]
  exact State.writeMarker_seqState _

/-- BREAK just entered waits for an owner arrival: its locked mark is clear (R84). -/
theorem State.enterBreak_stepsTaken (s : State) : (s.enterStep .breakJoint).stepsTaken := by
  intro _ _
  have clear : (s.enterStep .breakJoint).seq.lockedMark = false := State.writeMarker_lockedMark _
  have entered : (s.enterStep .breakJoint).seq.step = some .breakJoint := State.writeMarker_seqStep _
  simp [State.stepCondition, entered, State.breakoutPermit, clear]

/-- A cycle completed with the slips open waits for them to be set. -/
theorem State.completeCycle_stepsTaken {s : State} (unset : s.pins.slipsSet = false) : s.completeCycle.stepsTaken := by
  rcases s.completeCycle_cycle with idle | ⟨k, i, begun⟩
  · exact State.stepsTaken_of_state (by simp [State.seqState_of_cycle idle, Cycle.idle])
  · intro _ _
    simp [State.stepCondition, State.seqStep_of_cycle begun, Cycle.begun, Cycle.at, unset]

/-- A step ended leaves the sequencer settled or a shorter chain. -/
theorem State.endStep_chain {s : State} (due : s.stepCondition = true) :
    s.endStep.stepsTaken ∨ s.endStep.chain < s.chain := by
  unfold State.endStep
  split
  case h_1 none => simp [State.stepCondition, none] at due
  case h_2 st step =>
    split
    · exact .inl (State.stepsTaken_of_state (by simp [State.cycleFault_state]))
    · dsimp only
      split
      case h_1 next follows =>
        rcases nextStep_chain follows with rfl | shorter
        · exact .inl (State.enterBreak_stepsTaken _)
        · right
          simpa [State.chain, State.enterStep, step] using shorter
      case h_2 last =>
        obtain rfl := nextStep_eq_none last
        simp only [State.stepCondition, step, Bool.not_eq_true'] at due
        exact .inl (State.completeCycle_stepsTaken due)

/-- A settled sequencer stays as it is. -/
theorem State.settleSteps_of_taken {s : State} (n : Nat) (taken : s.stepsTaken) : s.settleSteps n = s := by
  cases n with
  | zero => rfl
  | succ n =>
    unfold State.settleSteps
    refine if_neg fun due => ?_
    simp only [Bool.and_eq_true, beq_iff_eq] at due
    obtain ⟨⟨acts, active⟩, condition⟩ := due
    exact absurd condition (by simp [taken acts active])

theorem State.settleSteps_stepsTaken {n : Nat} {s : State} (enough : s.chain ≤ n) : (s.settleSteps n).stepsTaken := by
  induction n generalizing s with
  | zero =>
    intro _ _
    have none : s.seq.step = none := by
      cases step : s.seq.step with
      | none => rfl
      | some st => cases st <;> simp [State.chain, step, chainOf] at enough
    simp [State.settleSteps, State.stepCondition, none]
  | succ n ih =>
    unfold State.settleSteps
    split
    case isTrue due =>
      simp only [Bool.and_eq_true] at due
      obtain ⟨_, condition⟩ := due
      rcases State.endStep_chain condition with taken | shorter
      · rwa [State.settleSteps_of_taken n taken]
      · exact ih (by omega)
    case isFalse still =>
      intro acts active
      simpa [acts, active] using still

/-- No step whose condition holds is still current once the sequencer is settled. -/
theorem State.settle_stepsTaken (s : State) : s.settle.stepsTaken := State.settleSteps_stepsTaken s.chain_le

end Sys2Proof.Machine
end

section
/-! SUPPORT. What the steps taken depend on (R70, R85): levels of the handling inputs, the permit of BREAK, and the
changes that leave these at least as quiet as they were. -/

namespace Sys2Proof.Machine

/-! ### The permit of BREAK -/

/-- The inputs that the steps' conditions read. -/
def Pins.handling (p : Pins) : Bool × Bool × Bool × Bool × Bool × Bool :=
  (p.slipsSet, p.jointFree, p.rodInLoader, p.jointMade, p.handlerDrive, p.rodStored)

/-- What one state's permit may rest on, another's may: the conditions of R85 one by one. -/
theorem State.breakoutPermit_mono {s t : State} (cycle : t.cycle = s.cycle)
    (acts : t.acts .handler = true → s.acts .handler = true) (held : s.held = true → t.held = true)
    (locked : t.seq.lockedMark = true → s.seq.lockedMark = true)
    (mud : (freshContent t.mudView).isSome = true → (freshContent s.mudView).isSome = true)
    (head : headAllowsBreak t.headView = true → headAllowsBreak s.headView = true) :
    t.breakoutPermit = true → s.breakoutPermit = true := by
  have state : t.seq.state = s.seq.state := congrArg Cycle.state cycle
  have step : t.seq.step = s.seq.step := congrArg Cycle.step cycle
  simp only [State.breakoutPermit, Bool.and_eq_true, state, step, Bool.not_eq_true']
  rintro ⟨⟨⟨⟨⟨⟨acts', active⟩, at_break⟩, free⟩, locked'⟩, mud'⟩, head'⟩
  refine ⟨⟨⟨⟨⟨⟨acts acts', active⟩, at_break⟩, ?_⟩, locked locked'⟩, mud mud'⟩, head head'⟩
  exact Bool.eq_false_iff.mpr fun h => absurd (held h) (by simp [free])

/-- The second state's steps wait for no less than the first's. -/
structure State.Rests (s t : State) : Prop where
  cycle : t.cycle = s.cycle
  acts : t.acts .handler = true → s.acts .handler = true
  lines : t.pins.handling = s.pins.handling
  permit : t.breakoutPermit = true → s.breakoutPermit = true

theorem State.Rests.stepCondition {s t : State} (rests : s.Rests t) (due : t.stepCondition = true) :
    s.stepCondition = true := by
  obtain ⟨cycle, _, lines, permit⟩ := rests
  have step : t.seq.step = s.seq.step := congrArg Cycle.step cycle
  simp only [Pins.handling, Prod.mk.injEq] at lines
  obtain ⟨slips, free, loader, made, drive, stored⟩ := lines
  unfold State.stepCondition at due ⊢
  rw [step] at due
  split <;> simp_all

theorem State.Rests.stepsTaken {s t : State} (rests : s.Rests t) (taken : s.stepsTaken) : t.stepsTaken := by
  intro acts active
  have state : t.seq.state = s.seq.state := congrArg Cycle.state rests.cycle
  exact Bool.eq_false_iff.mpr fun due =>
    absurd (rests.stepCondition due) (by simp [taken (rests.acts acts) (state ▸ active)])

theorem State.Rests.refl (s : State) : s.Rests s := ⟨rfl, id, rfl, id⟩

/-- The role's block acts on the node's own record alone. -/
theorem State.acts_congr {s t : State} (node : t.node = s.node) (r : Role) : t.acts r = s.acts r := by
  simp [State.acts, State.running, State.active, State.holdsRole, State.rolesHeld, State.yields, node]

theorem State.held_congr {s t : State} (holds : t.holds = s.holds) : t.held = s.held := by
  simp [State.held, holds]

theorem State.owner_congr {s t : State} (peers : t.peers = s.peers) (r : Role) : t.owner r = s.owner r := by
  simp [State.owner, peers]

theorem State.mudView_congr {s t : State} (peers : t.peers = s.peers) : t.mudView = s.mudView := by
  simp [State.mudView, State.owner, peers]

theorem State.headView_congr {s t : State} (peers : t.peers = s.peers) : t.headView = s.headView := by
  simp [State.headView, State.owner, peers]

/-- A change that leaves the peers alone, and takes no hold away. -/
theorem State.Rests.of_held {s t : State} (cycle : t.cycle = s.cycle) (node : t.node = s.node)
    (lines : t.pins.handling = s.pins.handling) (peers : t.peers = s.peers)
    (locked : t.seq.lockedMark = s.seq.lockedMark) (held : s.held = true → t.held = true) : s.Rests t where
  cycle := cycle
  acts := by simp [State.acts_congr node]
  lines := lines
  permit := State.breakoutPermit_mono cycle (by simp [State.acts_congr node]) held (by simp [locked])
    (by simp [State.mudView_congr peers]) (by simp [State.headView_congr peers])

/-- A change outside what cycle, lines and permit read. -/
theorem State.Rests.of_same {s t : State} (cycle : t.cycle = s.cycle) (node : t.node = s.node)
    (lines : t.pins.handling = s.pins.handling) (peers : t.peers = s.peers) (holds : t.holds = s.holds)
    (locked : t.seq.lockedMark = s.seq.lockedMark) : s.Rests t :=
  .of_held cycle node lines peers locked (by simp [State.held_congr holds])

/-- A command whose footprint is apart from all of it but the inputs, and leaves those of HANDLER. -/
theorem State.Rests.of_lines {bs : List Block} {s t : State} (h : Touches bs s t)
    (apart : ∀ b ∈ [Block.node, .peers, .holds, .inventory, .seq], b ∉ bs)
    (lines : t.pins.handling = s.pins.handling) : s.Rests t := by
  have at_block (b : Block) (mem : b ∈ [Block.node, .peers, .holds, .inventory, .seq]) : s.same t b :=
    h b (apart b mem)
  have seq : t.seq = s.seq := at_block .seq (by simp)
  exact .of_same (State.cycle_congr seq (at_block .inventory (by simp))) (at_block .node (by simp)) lines
    (at_block .peers (by simp)) (at_block .holds (by simp)) (congrArg _ seq)

/-! ### Holds placed -/

theorem State.held_of_entry {s : State} {st : Station} {e : HoldEntry} (entry : s.holds.others[st] = some e) :
    s.held = true :=
  s.held_iff.mpr (.inr ⟨st, by simp [entry]⟩)

theorem State.withHolds_holds (h : Holds) (b : Bool) (s : State) : (s.withHolds h b).holds = h := by
  unfold State.withHolds
  dsimp only
  split <;> simp

theorem State.setEntry_held (st : Station) (e : HoldEntry) (s : State) : (s.setEntry st (some e)).held = true :=
  State.held_of_entry (st := st) (e := e) (by rw [State.setEntry, State.withHolds_holds]; exact put_get_same _ _ _)

theorem State.placeReason_held (r : HoldReason) (s : State) : (s.placeReason r).held = true := by
  have placed : s.holds.reasons.set true r ≠ .empty := by
    cases r <;> simp [ReasonSet.set, ReasonSet.empty]
  refine (State.held_iff _).mpr (.inl ?_)
  unfold State.placeReason State.setReasons
  dsimp only
  split
  case isTrue same => rwa [← same]
  case isFalse => simpa [State.withHolds_holds] using placed

@[simp] theorem State.heldEdge_lockedMark (s : State) : s.heldEdge.seq.lockedMark = s.seq.lockedMark := by
  unfold State.heldEdge
  split <;> rfl

@[simp] theorem State.withHolds_lockedMark (h : Holds) (b : Bool) (s : State) :
    (s.withHolds h b).seq.lockedMark = s.seq.lockedMark := by
  unfold State.withHolds
  dsimp only
  split <;> simp

@[simp] theorem State.placeReason_lockedMark (r : HoldReason) (s : State) :
    (s.placeReason r).seq.lockedMark = s.seq.lockedMark := by
  unfold State.placeReason State.setReasons
  dsimp only
  split
  · rfl
  · rw [State.withHolds_lockedMark]
    split <;> rfl

/-- A local reason placed stops, and starts nothing (R51). -/
theorem State.placeReason_rests (r : HoldReason) (s : State) : s.Rests (s.placeReason r) :=
  .of_held (by simp) (by simp) (by simp) (by simp) (by simp) fun _ => State.placeReason_held r s

/-- So does another station's entry. -/
theorem State.setEntry_rests (st : Station) (e : HoldEntry) (s : State) : s.Rests (s.setEntry st (some e)) :=
  .of_held (by simp) (by simp) (by simp) (by simp) (State.withHolds_lockedMark _ _ _) fun _ => State.setEntry_held st e s

theorem State.orphan_rests (st : Station) (s : State) : s.Rests (s.orphan st) := by
  unfold State.orphan
  split
  · exact State.setEntry_rests st _ s
  · exact .refl s

/-! ### Ages and slots -/

theorem Slot.aged_freshness {α : Type} (n : Nat) (k : Slot α) : (k.aged n).freshness = k.freshness := by
  unfold Slot.aged
  split <;> rfl

theorem Slot.aged_content {α : Type} (n : Nat) (k : Slot α) : (k.aged n).content = k.content := by
  unfold Slot.aged
  split <;> rfl

theorem PeerEntry.aged_claims (n : Nat) (e : PeerEntry) (r : Role) : (e.aged n).claims r = e.claims r := by
  cases r <;>
    simp [PeerEntry.claims, PeerEntry.yieldsRole, PeerEntry.presenceClaims, PeerEntry.freshness, PeerEntry.aged,
      Slot.aged_freshness, Slot.aged_content]

theorem ownerIn_aged (n : Nat) (peers : Vector PeerEntry 8) (r : Role) :
    ownerIn (peers.map (PeerEntry.aged n)) r = ownerIn peers r :=
  ownerIn_congr fun st => by simp [PeerEntry.aged_claims]

theorem freshContent_aged {α : Type} (n : Nat) (view : Option (Slot α)) :
    freshContent (view.map (Slot.aged n)) = freshContent view := by
  cases view <;> simp [freshContent, Slot.aged_freshness, Slot.aged_content]

/-- Ages change neither owners nor what is FRESH, and take no hold away. -/
theorem State.Rests.of_ages {s t : State} (n : Nat) (cycle : t.cycle = s.cycle) (node : t.node = s.node)
    (lines : t.pins.handling = s.pins.handling) (locked : t.seq.lockedMark = s.seq.lockedMark)
    (peers : t.peers = s.peers.map (PeerEntry.aged n)) (reasons : t.holds.reasons = s.holds.reasons)
    (others : t.holds.others = s.holds.others.map (Option.map (HoldEntry.aged n))) : s.Rests t where
  cycle := cycle
  acts := by simp [State.acts_congr node]
  lines := lines
  permit := by
    have mud : t.mudView = s.mudView.map (Slot.aged n) := by
      simp [State.mudView, State.owner, peers, ownerIn_aged, Option.map_map, Function.comp_def, PeerEntry.aged]
    have head : t.headView = s.headView.map (Slot.aged n) := by
      simp [State.headView, State.owner, peers, ownerIn_aged, Option.map_map, Function.comp_def, PeerEntry.aged]
    refine State.breakoutPermit_mono cycle (by simp [State.acts_congr node]) ?_ (by simp [locked])
      (by rw [mud, freshContent_aged]; exact id) (by rw [headAllowsBreak, head, freshContent_aged]; exact id)
    simp [State.held_iff, reasons, others]

/-- A slot marked is no longer FRESH, unless it was marked so; the others are as they were. -/
theorem Slot.marked_stale_fresh {α : Type} (k : Slot α) (age : Nat) : (k.marked .stale age).freshness ≠ .fresh := by
  simp [Slot.marked]

theorem PeerEntry.marked_mud (e : PeerEntry) (slot : SlotName) (age : Nat) :
    (e.marked slot .stale age).mud = e.mud ∨ (e.marked slot .stale age).mud.freshness = .stale := by
  rcases slot with _ | r
  · exact .inl rfl
  · cases r
    case mud => exact .inr rfl
    all_goals exact .inl rfl

theorem PeerEntry.marked_head (e : PeerEntry) (slot : SlotName) (age : Nat) :
    (e.marked slot .stale age).head = e.head ∨ (e.marked slot .stale age).head.freshness = .stale := by
  rcases slot with _ | r
  · exact .inl rfl
  · cases r
    case head => exact .inr rfl
    all_goals exact .inl rfl

/-- A view replaced by one that is the same or STALE shows nothing new as FRESH. -/
theorem freshContent_of_stale {α : Type} {k k' : Slot α} (h : k' = k ∨ k'.freshness = .stale) :
    freshContent (some k') = freshContent (some k) ∨ freshContent (some k') = none := by
  rcases h with rfl | stale
  · exact .inl rfl
  · exact .inr (by simp [freshContent, stale])

/-- A view read through the table after a FRESH slot went STALE. -/
theorem freshContent_put_stale {α : Type} (peers : Vector PeerEntry 8) (st : Station) (slot : SlotName) (age : Nat)
    (view : PeerEntry → Slot α) (owner : Option Station)
    (marked : ∀ e : PeerEntry, view (e.marked slot .stale age) = view e ∨
      (view (e.marked slot .stale age)).freshness = .stale) :
    freshContent (owner.map fun o => view (put peers st (peers[st].marked slot .stale age))[o]) =
        freshContent (owner.map fun o => view peers[o]) ∨
      freshContent (owner.map fun o => view (put peers st (peers[st].marked slot .stale age))[o]) = none := by
  cases owner with
  | none => exact .inl rfl
  | some o =>
    by_cases same : st = o
    · subst same
      simpa only [Option.map_some, put_get_same] using freshContent_of_stale (marked _)
    · simp only [Option.map_some, put_get_other _ _ _ _ same, true_or]

theorem State.withPeers_lockedMark {peers : Vector PeerEntry 8} {s : State}
    (locked : (s.withPeers peers).seq.lockedMark = true) : s.seq.lockedMark = true := by
  unfold State.withPeers State.mudOwnerChanged at locked
  dsimp only at locked
  split at locked
  · exact locked
  · split at locked
    · cases locked
    · exact locked

/-- SLOT_STALE asks for no more (R5, R8). -/
theorem State.slotStale_rests {s : State} (st : Station) (slot : SlotName) (age : Nat)
    (fresh : s.peers[st].freshness slot = .fresh) : s.Rests (s.mapPeer st (·.marked slot .stale age)) where
  cycle := by simp
  acts := by simp [State.acts_congr (s := s)]
  lines := by simp
  permit := by
    have owner (r : Role) : (s.mapPeer st (·.marked slot .stale age)).owner r = s.owner r :=
      State.mapPeer_owner st _ s r (PeerEntry.claims_marked_stale _ slot age r fresh)
    have peers : (s.mapPeer st (·.marked slot .stale age)).peers = put s.peers st (s.peers[st].marked slot .stale age) :=
      State.withPeers_peers _ s
    refine State.breakoutPermit_mono (by simp) (by simp [State.acts_congr (s := s)]) (by simp [State.held_congr (s := s)])
      State.withPeers_lockedMark ?_ ?_
    · rw [State.mudView, owner, peers]
      rcases freshContent_put_stale s.peers st slot age (·.mud) (s.owner .mud) (·.marked_mud slot age) with eq | eq
      · rw [eq]; exact id
      · rw [eq]; simp
    · rw [State.headView, owner, peers, headAllowsBreak]
      rcases freshContent_put_stale s.peers st slot age (·.head) (s.owner .head) (·.marked_head slot age) with eq | eq
      · rw [eq]; exact id
      · rw [eq]; simp

end Sys2Proof.Machine
end

section
/-! SUPPORT. The sequencer along every step (R69, R70, R86). -/

namespace Sys2Proof.Machine

/-! ### What a command must do -/

/-- The three invariants along a command, each on those before it. -/
def State.SequencerKept (s t : State) : Prop :=
  s.seq.stepKept → t.seq.stepKept ∧ (s.markerKept → t.markerKept ∧ (s.stepsTaken → t.stepsTaken))

theorem State.SequencerKept.of_cycle {s t : State} (cycle : s.CycleKept t)
    (taken : s.seq.stepKept → s.markerKept → s.stepsTaken → t.stepsTaken) : s.SequencerKept t :=
  fun kept => ⟨(cycle kept).1, fun marked => ⟨(cycle kept).2 marked, taken kept marked⟩⟩

/-- A command that ends by bringing the sequencer up to date takes every step that can be taken. -/
theorem State.SequencerKept.settle {s t : State} (cycle : s.CycleKept t) : s.SequencerKept t.settle :=
  .of_cycle (cycle.trans t.settle_keepsCycle) fun _ _ _ => t.settle_stepsTaken

theorem State.SequencerKept.of_rests {s t : State} (rests : s.Rests t) : s.SequencerKept t :=
  .of_cycle (.of_same rests.cycle) fun _ _ => rests.stepsTaken

/-- A command that leaves the sequencer outside ACTIVE leaves no step to take. -/
theorem State.SequencerKept.of_out {s t : State} (cycle : s.CycleKept t) (out : t.seq.state ≠ .active) :
    s.SequencerKept t :=
  .of_cycle cycle fun _ _ _ => State.stepsTaken_of_state out

theorem State.SequencerKept.of_idle {s t : State} {rod : Option Nat} (idle : t.cycle = .idle rod) :
    s.SequencerKept t :=
  .of_out (.of_idle idle) (by simp [State.seqState_of_cycle idle, Cycle.idle])

theorem State.SequencerKept.refl (s : State) : s.SequencerKept s := .of_rests (.refl s)

theorem State.SequencerKept.trans {s t u : State} (a : s.SequencerKept t) (b : t.SequencerKept u) :
    s.SequencerKept u := by
  intro kept
  obtain ⟨kept', marked'⟩ := a kept
  obtain ⟨kept'', marked''⟩ := b kept'
  refine ⟨kept'', fun marked => ?_⟩
  obtain ⟨at_t, taken'⟩ := marked' marked
  obtain ⟨at_u, taken''⟩ := marked'' at_t
  exact ⟨at_u, taken'' ∘ taken'⟩

/-- A request kept so is kept so in a request of an acting block. -/
theorem State.SequencerKept.request {s : State} {r : Role} {f : State → Answered} (i : Instr)
    (h : s.acts r = true → s.SequencerKept (f s).2) : s.SequencerKept (State.answer i (s.runningRequest r f)) := by
  have kept : s.SequencerKept (s.runningRequest r f).2 := runningRequest_keeps (P := s.SequencerKept) (.refl s) h
  exact kept

/-- The answer of a request is not the sequencer's. -/
theorem State.SequencerKept.answer {s : State} (i : Instr) {a : Answered} (h : s.SequencerKept a.2) :
    s.SequencerKept (State.answer i a) := h

/-! ### Holds -/

theorem holdRequest_sequencer (s : State) : s.SequencerKept (holdRequest s).2 := by
  unfold holdRequest
  split
  · exact .settle (.of_same (by simp))
  · exact .refl s

theorem releaseHoldRequest_sequencer (reason : Byte) (s : State) :
    s.SequencerKept (releaseHoldRequest reason s).2 := by
  unfold releaseHoldRequest
  split
  · exact .refl s
  · split
    · exact .refl s
    · split
      · exact .refl s
      · exact .settle (.of_same (by simp))

theorem clearHoldRequest_sequencer (station : Byte) (s : State) :
    s.SequencerKept (clearHoldRequest station s).2 := by
  unfold clearHoldRequest
  (repeat' split)
  case h_1.isTrue => exact .settle (.of_same (by simp))
  all_goals exact .refl s

/-! ### Cycles and trips -/

/-- A cycle started and settled. -/
theorem State.SequencerKept.started {s u t : State} {k : CycleKind} (started : u.startCycle k = .ok t) :
    s.SequencerKept t.settle := by
  obtain ⟨i, begun⟩ := State.startCycle_cycle started
  exact .settle (.of_begun begun)

theorem cycleRequest_sequencer (k : CycleKind) (s : State) : s.SequencerKept (cycleRequest k s).2 := by
  unfold cycleRequest
  split
  · exact .refl s
  · split
    · exact .refl s
    · split
      case h_1 => exact .refl s
      case h_2 started => exact .started started

theorem tripRequest_sequencer (k : CycleKind) (count : Byte) (s : State) :
    s.SequencerKept (tripRequest k count s).2 := by
  unfold tripRequest
  dsimp only
  (repeat' split)
  case h_2 started => exact .started started
  all_goals exact .refl s

/-- A change of the trip plan alone. -/
theorem State.Rests.of_plan (s : State) (plan : TripPlan) : s.Rests { s with seq := { s.seq with plan := plan } } :=
  .of_same rfl rfl rfl rfl rfl rfl

theorem resumeRequest_sequencer (s : State) : s.SequencerKept (resumeRequest s).2 := by
  unfold resumeRequest
  dsimp only
  (repeat' split)
  case h_2 started => exact .started started
  case isFalse.isFalse.isFalse => exact .of_rests (.of_plan s _)
  all_goals exact .refl s

theorem retryStepRequest_sequencer (s : State) : s.SequencerKept (retryStepRequest s).2 := by
  unfold retryStepRequest
  split
  case h_1 st faulted step =>
    refine .settle (.of_at (state := .active) (fault := none) (by simp) (by simp) fun kept => ?_)
    obtain ⟨_, i, _, slot⟩ := Sequencer.stepKept.under_way kept (by simp [faulted])
    have slot' : (s.removeReason .handlingFault).seq.slot = some i :=
      (congrArg Cycle.slot (State.removeReason_cycle .handlingFault s)).trans slot
    exact ⟨_, st, i, _, State.enterStep_cycle st slot'⟩
  case h_2 => exact .refl s

theorem abortRequest_sequencer (s : State) : s.SequencerKept (abortRequest s).2 := by
  unfold abortRequest
  split
  · exact .refl s
  case isFalse going =>
    have under_way : s.seq.state ≠ .idle := by
      intro idle
      simp [idle] at going
    have released : (if s.seq.state = .faulted then s.removeReason .handlingFault else s).cycle = s.cycle := by
      split <;> simp
    generalize (if s.seq.state = .faulted then s.removeReason .handlingFault else s) = u at released
    dsimp only
    split
    · exact .of_idle (t := { u with seq := _ }) (rod := u.inventory.transit.map (·.id)) rfl
    · refine .of_out (.of_at (state := .transitHeld) (fault := none) (by simp) (by simp) fun kept => ?_) (by simp)
      obtain ⟨st, i, step, slot⟩ := Sequencer.stepKept.under_way kept under_way
      have step' : u.seq.step = some st := (congrArg Cycle.step released).trans step
      have slot' : u.seq.slot = some i := (congrArg Cycle.slot released).trans slot
      exact ⟨_, st, i, _, State.writeMarker_cycle step' slot'⟩

/-- A rod placed ends TRANSIT_HELD, and RECOVER goes on without it (R80). -/
theorem State.placed_sequencer {s : State} (v : Inventory) : s.SequencerKept (s.placed v) := by
  by_cases recover : s.seq.state = .recover
  · refine .of_out (fun kept => ?_) (by simp [State.placed, recover])
    have cycle : (s.placed v).cycle = { s.cycle with
        marker := s.seq.marker.map fun m => { m with rod := none }
        rod := v.transit.map (·.id) } := by
      simp [State.cycle, State.placed, recover]
    rw [cycle]
    exact ⟨kept, fun _ => Cycle.markerKept_of_out (by simp [State.cycle, recover]) (by simp [State.cycle, recover])
      (by simp [State.cycle, recover])⟩
  · exact .of_idle (rod := v.transit.map (·.id)) (by simp [State.cycle, State.placed, recover, Sequencer.toIdle, Cycle.idle])

theorem resolveTransitRequest_sequencer (destination slot : Byte) (s : State) :
    s.SequencerKept (resolveTransitRequest destination slot s).2 := by
  unfold resolveTransitRequest
  split
  · exact .refl s
  · split
    · split
      · exact .refl s
      · split
        · exact .refl s
        · exact State.placed_sequencer _
    · split
      · exact .refl s
      · exact State.placed_sequencer _
    · exact .refl s

theorem confirmRecoveryRequest_sequencer (s : State) : s.SequencerKept (confirmRecoveryRequest s).2 := by
  unfold confirmRecoveryRequest
  split
  · exact .refl s
  · split
    · exact .refl s
    · exact .of_idle (rod := s.inventory.transit.map (·.id)) (State.removeReason_cycle _ _)

/-! ### Arrivals and yields -/

theorem State.stopWork_keepsCycle (r : Role) (s : State) : s.CycleKept (s.stopWork r) := by
  unfold State.stopWork
  split
  case h_2 =>
    split
    · exact State.enterRecover_keepsCycle s
    · exact .of_same rfl
  all_goals exact .of_same rfl

theorem State.yieldRole_keepsCycle (r : Role) (s : State) : s.CycleKept (s.yieldRole r) := by
  unfold State.yieldRole
  split
  · have stopped := State.stopWork_keepsCycle r
      (({ s with
          node := { s.node with yielded := s.node.yielded.insert r }
          link := { s.link with due := s.link.due.drop r } } : State).raise .roleYielded)
    exact stopped
  · exact .of_same rfl

theorem State.yieldRoles_keepsCycle (claimed : Role → Bool) (s : State) : s.CycleKept (s.yieldRoles claimed) := by
  have each (u : State) (r : Role) : u.CycleKept (if claimed r then u.yieldRole r else u) := by
    split
    · exact State.yieldRole_keepsCycle r u
    · exact .of_same rfl
  exact (each s _).trans ((each _ _).trans ((each _ _).trans (each _ _)))

theorem State.yieldTo_keepsCycle (st : Station) (claimed : Role → Bool) (s : State) :
    s.CycleKept (s.yieldTo st claimed) := by
  unfold State.yieldTo
  split
  · exact State.yieldRoles_keepsCycle claimed s
  · exact .of_same rfl

theorem State.announcementArrival_sequencer (st : Station) (a : Announcement) (s : State) :
    s.SequencerKept (s.announcementArrival st a) :=
  .of_cycle
    (State.announcementArrival_rel (R := State.CycleKept) State.CycleKept.trans st a (fun _ _ => .of_same (by simp))
      (fun _ _ => State.yieldTo_keepsCycle _ _ _) (fun _ => .of_same (by simp)) State.settle_keepsCycle s)
    fun _ _ _ => State.settle_stepsTaken _

theorem State.presenceArrival_sequencer (st : Station) (p : Presence) (s : State) :
    s.SequencerKept (s.presenceArrival st p) :=
  .of_cycle
    (State.presenceArrival_rel (R := State.CycleKept) State.CycleKept.trans st p (fun _ _ => .of_same (by simp))
      (fun _ _ => State.yieldTo_keepsCycle _ _ _) (fun _ _ => .of_same (by simp)) State.settle_keepsCycle s)
    fun _ _ _ => State.settle_stepsTaken _

/-- A directive reaches the sequencer as STOP_TRIP alone (R39). -/
theorem directiveRequest_rests (c : DirectiveCode) (arg : Byte) (s : State) :
    s.Rests (directiveRequest c arg s).2 := by
  have outside {t : State} {bs : List Block} (h : Touches bs s t) (sub : bs ⊆ [.circ, .log, .causes]) : s.Rests t :=
    have pins : t.pins = s.pins := h.mono sub .pins (by simp)
    .of_lines (h.mono sub) (by simp) (by rw [pins])
  cases c with
  | stopTrip => exact .of_plan s _
  | setLithology => exact outside (setLithologyRequest_touches arg s) (by simp)
  | addRemark => exact outside (addRemarkRequest_touches arg s) (by simp)
  | markWater => exact outside (markWaterRequest_touches s) (by simp)
  | startPump => exact outside (startPumpRequest_touches arg s) (by simp)
  | stopPump => exact outside (stopPumpRequest_touches arg s) (by simp)

end Sys2Proof.Machine
end

section
/-! SUPPORT. Each command keeps the sequencer's invariants. -/

namespace Sys2Proof.Machine

/-! ### Directives and frames -/

theorem State.routeDirective_rests (source : Station) (d : Directive) (s : State) :
    s.Rests (s.routeDirective source d) := by
  have carried (r : Role) : s.Rests (s.carryOut r d).2 :=
    runningRequest_keeps (P := s.Rests) (.refl s) fun _ => by
      split
      · exact .refl s
      · exact directiveRequest_rests _ _ s
  have taken (r : Role) : s.Rests (s.takeDirective r source d) := by
    obtain ⟨cycle, acts, lines, permit⟩ := carried r
    unfold State.takeDirective State.raiseIf
    dsimp only
    split <;> exact ⟨cycle, acts, lines, permit⟩
  unfold State.routeDirective
  (repeat' split)
  case h_2.isTrue => exact taken _
  all_goals exact .refl s

theorem State.completedFrame_sequencer (own : Station) (f : Frame) (s : State) :
    s.SequencerKept (s.completedFrame own f) := by
  cases f with
  | holdSet | holdRelease => exact .refl s
  | directive d => exact .of_rests (State.routeDirective_rests own d s)
  | announce a => exact State.announcementArrival_sequencer own a s
  | presence p => exact State.presenceArrival_sequencer own p s

/-- A received frame keeps what its delivery keeps. -/
theorem State.deliver_sequencer (source : Station) (s : State) {f : State → State}
    (h : ∀ u : State, u.SequencerKept (f u)) : s.SequencerKept (s.deliver source f) := by
  rcases s.deliver_cases source f with same | clash | delivered
  · rw [same]; exact .refl s
  · rw [clash]; exact .of_rests (.of_same rfl rfl rfl rfl rfl rfl)
  · rw [delivered]
    have kept := h s.frameEnded
    exact kept

/-! ### Node states -/

theorem State.yieldRole_state (r : Role) (s : State) : (s.yieldRole r).node.state = s.node.state := by
  have work (u : State) : (u.stopWork r).node = u.node := by
    unfold State.stopWork
    split
    case h_2 => split <;> simp
    all_goals rfl
  unfold State.yieldRole
  split
  · rw [work]; rfl
  · rfl

theorem State.yieldRoles_state (claimed : Role → Bool) (s : State) :
    (s.yieldRoles claimed).node.state = s.node.state := by
  have each (u : State) (r : Role) : (if claimed r then u.yieldRole r else u).node.state = u.node.state := by
    split
    · exact State.yieldRole_state r u
    · rfl
  exact (each _ _).trans ((each _ _).trans ((each _ _).trans (each s _)))

theorem State.dropOwnEntry_cycle (s : State) : s.dropOwnEntry.cycle = s.cycle := by
  unfold State.dropOwnEntry
  split <;> simp

theorem State.acts_of_state {s : State} {r : Role} (acts : s.acts r = true) : s.node.state = .running := by
  simp only [State.acts, State.running, Bool.and_eq_true, beq_iff_eq] at acts
  obtain ⟨running, _⟩ := acts
  exact running

/-- A command after which the node is not in RUNNING: no block acts. -/
theorem State.SequencerKept.of_not_running {s t : State} (cycle : s.CycleKept t) (state : t.node.state ≠ .running) :
    s.SequencerKept t :=
  .of_cycle cycle fun _ _ _ acts => absurd (State.acts_of_state acts) state

/-- START: LISTEN is entered, with the yields of lower claims (R177). -/
theorem State.started_sequencer (s : State) : s.SequencerKept s.started := by
  have listening (u : State) (state : u.node.state = .listen) (cycle : u.cycle = s.cycle) :
      s.CycleKept (u.yieldRoles u.claimedBelow).dropOwnEntry ∧
        (u.yieldRoles u.claimedBelow).dropOwnEntry.node.state = .listen := by
    refine ⟨.trans (.of_same cycle) ((State.yieldRoles_keepsCycle _ u).trans
      (.of_same (State.dropOwnEntry_cycle _))), ?_⟩
    rw [dropOwnEntry_touches _ .node (by simp [holdBlocks]), State.yieldRoles_state, state]
  have scanned (u : State) : u.beginScan.cycle = u.cycle ∧ u.beginScan.node = u.node :=
    ⟨State.cycle_congr (beginScan_touches u .seq (by simp)) (beginScan_touches u .inventory (by simp)),
      beginScan_touches u .node (by simp)⟩
  unfold State.started
  dsimp only
  generalize entered : ({ s with node := _, timers := _, link := _ } : State) = u
  obtain ⟨cycle, state⟩ := listening u (by rw [← entered]) (by rw [← entered]; rfl)
  split
  · obtain ⟨same, node⟩ := scanned (u.yieldRoles u.claimedBelow).dropOwnEntry
    exact .of_not_running (cycle.trans (.of_same same)) (by rw [node, state]; decide)
  · exact .of_not_running cycle (by rw [state]; decide)

/-- RUNNING entry: HANDLER goes to RECOVER from its marker, and without one no cycle is under way (R178). -/
theorem State.enterRunning_sequencer (s : State) : s.SequencerKept s.enterRunning := by
  have after (u : State) : u.mudEntry.headEntry.cabEntry.allDue.cycle = u.cycle ∧
      u.mudEntry.headEntry.cabEntry.allDue.node = u.node := by
    have seq : u.mudEntry.headEntry.cabEntry.allDue.seq = u.seq := by
      rw [allDue_touches _ .seq (by simp), cabEntry_touches _ .seq (by simp), headEntry_touches _ .seq (by simp),
        mudEntry_touches _ .seq (by simp)]
    have inventory : u.mudEntry.headEntry.cabEntry.allDue.inventory = u.inventory := by
      rw [allDue_touches _ .inventory (by simp), cabEntry_touches _ .inventory (by simp),
        headEntry_touches _ .inventory (by simp), mudEntry_touches _ .inventory (by simp)]
    refine ⟨State.cycle_congr seq inventory, ?_⟩
    rw [allDue_touches _ .node (by simp), cabEntry_touches _ .node (by simp), headEntry_touches _ .node (by simp),
      mudEntry_touches _ .node (by simp)]
  unfold State.enterRunning
  dsimp only
  generalize entered : ({ s with node := _, timers := _ } : State) = u
  have same : u.cycle = s.cycle := by rw [← entered]; rfl
  obtain ⟨cycle, node⟩ := after u.handlerEntry
  have kept : s.CycleKept u.handlerEntry := by
    refine .trans (.of_same same) ?_
    unfold State.handlerEntry
    split
    · exact State.enterRecover_keepsCycle u
    · exact .of_same rfl
  refine .of_cycle (kept.trans (.of_same cycle)) fun _ marked _ acts active => ?_
  exfalso
  have holds : u.holdsRole .handler = true := by
    rw [State.acts_congr (s := u) (by rw [node, handlerEntry_touches u .node (by simp [holdBlocks])])] at acts
    simp only [State.acts, State.active, Bool.and_eq_true] at acts
    obtain ⟨_, holds, _⟩ := acts
    exact holds
  have active' : u.enterRecover.seq.state = .active := by
    have eq : u.handlerEntry = u.enterRecover := if_pos holds
    rw [← eq]
    exact (congrArg Cycle.state cycle).symm.trans active
  rcases u.enterRecover_cycle with ⟨none, eq⟩ | ⟨m, _, recover⟩
  · have state : s.seq.state = .active := by
      rw [eq] at active'
      exact (congrArg Cycle.state same).symm.trans active'
    have marker : s.seq.marker = Option.none := (congrArg Cycle.marker same).symm.trans none
    obtain ⟨kind, _⟩ := marked (.inl state)
    simp [marker] at kind
  · rw [State.seqState_of_cycle recover] at active'
    cases active'

/-! ### Timers and periods -/

theorem execTimeBaseStep_rests {s t : State} (next : execTimeBaseStep s = .next t) : s.Rests t := by
  cases next
  have ticked : ∀ u : State, u.cycle = s.cycle ∧ u.seq.lockedMark = s.seq.lockedMark → u.node = s.node ∧
      u.pins = s.pins ∧ u.peers = s.toTenth.peers ∧ u.holds = s.toTenth.holds → s.Rests u := by
    rintro u ⟨cycle, locked⟩ ⟨node, pins, peers, holds⟩
    exact .of_ages (10 - s.time.sub / Config.ageStep) cycle node (by rw [pins]) locked peers (by rw [holds]; rfl)
      (by rw [holds]; rfl)
  (repeat' split) <;> exact ticked _ ⟨rfl, rfl⟩ ⟨rfl, rfl, rfl, rfl⟩

theorem State.idle_rests (s : State) : s.Rests s.idle := by
  unfold State.idle State.bitTime
  dsimp only
  (repeat' split)
  case isFalse.isTrue => exact .of_ages 1 rfl rfl rfl rfl rfl rfl rfl
  all_goals exact .of_same rfl rfl rfl rfl rfl rfl

theorem execStepTimerExpiry_sequencer {s t : State} (next : execStepTimerExpiry s = .next t) : s.SequencerKept t := by
  cases next
  split
  case isTrue due =>
    obtain ⟨runs, _⟩ := due
    have active : s.seq.state = .active := by
      simp only [State.stepTimerRuns, Bool.and_eq_true, beq_iff_eq] at runs
      obtain ⟨⟨⟨_, active⟩, _⟩, _⟩ := runs
      exact active
    have kept := State.cycleFault_keepsCycle (s := { s with seq := { s.seq with timer := 0 } }) .timeout
      (by simp [active])
    exact .of_out kept (by simp [State.cycleFault_state])
  case isFalse => exact .refl s

theorem execBalancePeriodExpiry_sequencer {s t : State} (next : execBalancePeriodExpiry s = .next t) :
    s.SequencerKept t := by
  have period (c : MudConfig) (u : State) : u.SequencerKept (u.balancePeriod c) := by
    have judged (v : Balance) (b : Bool) (c : Cause) : u.Rests (({ u with bal := v } : State).raiseIf b c) :=
      .of_same (State.raiseIf_cycle _ _ _) (by simp) (by simp) (by simp) (by simp) (by simp)
    unfold State.balancePeriod
    dsimp only
    split
    · exact .trans (.of_rests (judged _ _ _)) (.of_rests (State.placeReason_rests _ _))
    · exact .of_rests (judged _ _ _)
  cases next
  split
  · split
    · refine .trans ?_ (period _ _)
      exact .of_rests (.of_same (State.cycle_congr (by simp) (by simp)) (by simp) (by simp) (by simp) (by simp) (by simp))
    · exact .refl s
  · exact .refl s

theorem execSlotStale_sequencer {st : Station} {slot : SlotName} {s t : State}
    (next : execSlotStale st slot s = .next t) : s.SequencerKept t := by
  cases next
  split
  case isTrue due =>
    obtain ⟨fresh, _⟩ := due
    exact .of_rests (State.slotStale_rests st slot _ fresh)
  case isFalse => exact .refl s

theorem execSlotLost_sequencer {st : Station} {slot : SlotName} {s t : State}
    (next : execSlotLost st slot s = .next t) : s.SequencerKept t := by
  cases next
  dsimp only
  split
  · split
    · exact .settle (.of_same (by simp))
    · refine .settle (.of_same ?_)
      split <;> simp
  · exact .refl s

theorem execHoldSilenceExpiry_sequencer {st : Station} {s t : State} (next : execHoldSilenceExpiry st s = .next t) :
    s.SequencerKept t := by
  cases next
  (repeat' split)
  · exact .of_rests (State.orphan_rests st s)
  all_goals exact .refl s

/-! ### Every command -/

theorem State.powerOn_sequencer (valid : Bool) (s : State) : s.SequencerKept (s.powerOn valid) := by
  have reset : (s.powerOn valid).seq.stepKept ∧ (s.powerOn valid).seq.state = .idle := by
    unfold State.powerOn
    dsimp only
    split <;> exact ⟨by simp [Sequencer.stepKept, State.cleared, State.initialised, Sequencer.afterReset,
      Sequencer.initial], rfl⟩
  obtain ⟨kept, idle⟩ := reset
  exact .of_out (fun _ => ⟨kept, fun _ => Cycle.markerKept_of_out (by simp [State.cycle, idle])
    (by simp [State.cycle, idle]) (by simp [State.cycle, idle])⟩) (by simp [idle])

/-- A change of the inventory that leaves the transit position. -/
theorem State.Rests.of_inventory {s t : State} (h : Touches [.inventory] s t)
    (transit : t.inventory.transit = s.inventory.transit) : s.Rests t :=
  have seq : t.seq = s.seq := h .seq (by simp)
  have pins : t.pins = s.pins := h .pins (by simp)
  .of_same (by simp [State.cycle, seq, transit]) (h .node (by simp)) (by rw [pins]) (h .peers (by simp))
    (h .holds (by simp)) (by rw [seq])

/-- The requests of R61 leave the transit position alone. -/
theorem State.inventoryRequest_sequencer {s : State} (i : Instr) {f : State → Answered} (h : Touches [.inventory] s (f s).2)
    (transit : (f s).2.inventory.transit = s.inventory.transit) :
    s.SequencerKept (State.answer i (s.inventoryRequest f)) := by
  refine .request i fun _ => ?_
  split
  · exact .refl s
  · exact .of_rests (.of_inventory h transit)

theorem registerRodRequest_transit (slot : Byte) (id : BitVec 16) (kind : Byte) (length count : BitVec 16) (s : State) :
    (registerRodRequest slot id kind length count s).2.inventory.transit = s.inventory.transit := by
  unfold registerRodRequest
  (repeat' split) <;> rfl

theorem unregisterRodRequest_transit (slot : Byte) (s : State) :
    (unregisterRodRequest slot s).2.inventory.transit = s.inventory.transit := by
  unfold unregisterRodRequest
  (repeat' split) <;> rfl

theorem appendStringRequest_transit (id : BitVec 16) (kind : Byte) (length count : BitVec 16) (s : State) :
    (appendStringRequest id kind length count s).2.inventory.transit = s.inventory.transit := by
  unfold appendStringRequest
  (repeat' split) <;> rfl

theorem setCarouselRequest_transit (index : Byte) (s : State) :
    (setCarouselRequest index s).2.inventory.transit = s.inventory.transit := by
  unfold setCarouselRequest
  split <;> rfl

theorem correctTallyRequest_transit (offset : BitVec 16) (s : State) :
    (correctTallyRequest offset s).2.inventory.transit = s.inventory.transit := by
  unfold correctTallyRequest
  (repeat' split) <;> rfl

/-- The requests on the tally correction, in any state of the sequencer. -/
theorem State.SequencerKept.tallyRequest {s : State} (i : Instr) {f : State → Answered} (h : Touches [.inventory] s (f s).2)
    (transit : (f s).2.inventory.transit = s.inventory.transit) :
    s.SequencerKept (State.answer i (s.handlerRequest f)) :=
  .request i fun _ => .of_rests (.of_inventory h transit)

/-! ### Inputs of other blocks -/

theorem Pins.setPumpRun_handling (pins : Pins) (p : Pump) (level : Level) :
    (pins.setPumpRun p level).handling = pins.handling := by
  cases p <;> rfl

theorem execPumpRunningChange_lines {p : Pump} {level : Level} {s t : State}
    (next : execPumpRunningChange p level s = .next t) : t.pins.handling = s.pins.handling := by
  cases next
  (repeat' split) <;> simp [Pins.setPumpRun_handling]

/-- A block that acts as HEAD reads its inputs only. -/
theorem State.asHead_pins {s : State} {f : HeadConfig → State} (h : ∀ c, (f c).pins = s.pins) :
    (s.asHead f).pins = s.pins := by
  unfold State.asHead
  (repeat' split)
  · exact h _
  all_goals rfl

theorem execEncoderLineChange_lines {a b : Level} {s t : State} (next : execEncoderLineChange a b s = .next t) :
    t.pins.handling = s.pins.handling := by
  cases next
  split
  · rfl
  · rw [State.asHead_pins fun c => by split <;> simp]
    rfl

theorem execHomeSwitchEdge_lines {closed : Level} {s t : State} (next : execHomeSwitchEdge closed s = .next t) :
    t.pins.handling = s.pins.handling := by
  cases next
  split
  · rfl
  · rw [State.asHead_pins fun c => by simp]
    rfl

theorem execHeadDriveChange_lines {level : Level} {s t : State} (next : execHeadDriveChange level s = .next t) :
    t.pins.handling = s.pins.handling := by
  cases next
  split
  · rfl
  · rw [State.asHead_pins fun c => by simp]
    rfl

/-! ### CONFIGURE -/

theorem Node.configured_state {n m : Node} {group : Nat} {bs : List Byte} (configured : n.configured group bs = .ok m) :
    m.state = n.state := by
  unfold Node.configured at configured
  dsimp only at configured
  split at configured
  · cases read : readNode bs <;> rw [read] at configured <;> cases configured
    rfl
  all_goals
    split at configured <;> cases configured
    rfl

theorem configureRequest_sequencer (group : Byte) (values : List Byte) (s : State) :
    s.SequencerKept (configureRequest group values s).2 := by
  unfold configureRequest
  (repeat' split)
  case h_2 config _ _ _ n configured =>
    have state : n.state = .config := (Node.configured_state configured).trans (Decidable.not_not.mp config)
    exact .of_not_running (t := { s with node := n }) (.of_same rfl) (by simp [state])
  all_goals exact .refl s

/-- Every command keeps the sequencer's invariants. -/
theorem exec_keepsSequencer {i : Instr} {s t : State} (next : exec i s = .next t) : s.SequencerKept t := by
  by_cases apart : ∀ b ∈ [Block.node, .pins, .peers, .holds, .inventory, .seq], b ∉ footprint i
  · have pins : t.pins = s.pins := exec_touches next .pins (apart .pins (by simp))
    have listed : [Block.node, .peers, .holds, .inventory, .seq] ⊆ [Block.node, .pins, .peers, .holds, .inventory, .seq] :=
      ((List.sublist_cons_self Block.pins _).cons_cons Block.node).subset
    exact .of_rests (.of_lines (exec_touches next) (fun b mem => apart b (listed mem)) (by rw [pins]))
  · cases i with
    | powerOnReset kept => cases next; exact State.powerOn_sequencer _ s
    | reset =>
      cases next
      exact .of_out (fun _ => ⟨by simp [Cycle.stepKept, State.cycle, State.portReset, State.cleared, Sequencer.afterReset],
        fun _ => Cycle.markerKept_of_out (by simp [State.cycle, State.portReset, State.cleared, Sequencer.afterReset])
          (by simp [State.cycle, State.portReset, State.cleared, Sequencer.afterReset])
          (by simp [State.cycle, State.portReset, State.cleared, Sequencer.afterReset])⟩)
        (by simp [State.portReset, State.cleared, Sequencer.afterReset])
    | hold => cases next; exact .answer _ (holdRequest_sequencer s)
    | releaseHold reason => cases next; exact .answer _ (releaseHoldRequest_sequencer reason s)
    | clearHold st => cases next; exact .answer _ (clearHoldRequest_sequencer st s)
    | registerRod slot id kind length count =>
      cases next
      exact State.inventoryRequest_sequencer _ (registerRodRequest_touches slot id kind length count s)
        (registerRodRequest_transit slot id kind length count s)
    | unregisterRod slot =>
      cases next
      exact State.inventoryRequest_sequencer _ (unregisterRodRequest_touches slot s) (unregisterRodRequest_transit slot s)
    | appendString id kind length count =>
      cases next
      exact State.inventoryRequest_sequencer _ (appendStringRequest_touches id kind length count s)
        (appendStringRequest_transit id kind length count s)
    | setCarousel index =>
      cases next
      exact State.inventoryRequest_sequencer _ (setCarouselRequest_touches index s) (setCarouselRequest_transit index s)
    | correctTally offset =>
      cases next
      exact .tallyRequest _ (correctTallyRequest_touches offset s) (correctTallyRequest_transit offset s)
    | clearTally => cases next; exact .tallyRequest _ (by simp [clearTallyRequest, touches_iff]) rfl
    | makeup => cases next; exact .request _ fun _ => cycleRequest_sequencer .makeup s
    | breakout => cases next; exact .request _ fun _ => cycleRequest_sequencer .breakout s
    | tripIn count => cases next; exact .request _ fun _ => tripRequest_sequencer .makeup count s
    | tripOut count => cases next; exact .request _ fun _ => tripRequest_sequencer .breakout count s
    | stopTrip => cases next; exact .request _ fun _ => .of_rests (.of_plan s _)
    | resume => cases next; exact .request _ fun _ => resumeRequest_sequencer s
    | retryStep => cases next; exact .request _ fun _ => retryStepRequest_sequencer s
    | abort => cases next; exact .request _ fun _ => abortRequest_sequencer s
    | resolveTransit destination slot =>
      cases next; exact .request _ fun _ => resolveTransitRequest_sequencer destination slot s
    | confirmRecovery => cases next; exact .request _ fun _ => confirmRecoveryRequest_sequencer s
    | configure group values => cases next; exact .answer _ (configureRequest_sequencer group values s)
    | start =>
      cases next
      refine .answer _ ?_
      unfold startRequest
      split
      · exact .refl s
      · exact State.started_sequencer s
    | frameComplete =>
      rcases execFrameComplete_cases next with rfl | ⟨own, f, u, _, _, _, rfl, rfl⟩
      · exact .refl _
      · have kept := State.completedFrame_sequencer own f
          { s with link := { s.link.disposed f with line := .busy, receiving := false, faultCount := 0 } }
        exact kept
    | presenceReceived source content =>
      cases next; exact State.deliver_sequencer source s (State.presenceArrival_sequencer source content)
    | announcementReceived source content =>
      cases next; exact State.deliver_sequencer source s (State.announcementArrival_sequencer source content)
    | holdSetReceived source reason =>
      cases next; exact State.deliver_sequencer source s fun u => .of_rests (State.setEntry_rests source _ u)
    | holdReleaseReceived source =>
      cases next; exact State.deliver_sequencer source s fun u => .settle (.of_same (by simp))
    | directiveReceived source directive =>
      cases next
      exact State.deliver_sequencer source s fun u => .of_rests (State.routeDirective_rests source directive u)
    | slotStale st slot => exact execSlotStale_sequencer next
    | slotLost st slot => exact execSlotLost_sequencer next
    | holdSilenceExpiry st => exact execHoldSilenceExpiry_sequencer next
    | listenTimerExpiry =>
      cases next
      split
      · exact State.enterRunning_sequencer s
      · exact .refl s
    | timeBaseStep => exact .of_rests (execTimeBaseStep_rests next)
    | stepTimerExpiry => exact execStepTimerExpiry_sequencer next
    | balancePeriodExpiry => exact execBalancePeriodExpiry_sequencer next
    | handlerInputChange input level => cases next; exact .settle (.of_same rfl)
    | carouselPulse =>
      cases next
      split
      · exact .of_rests (.of_same rfl rfl rfl rfl rfl rfl)
      · exact .refl s
    | pumpRunningChange p level =>
      exact .of_rests (.of_lines (exec_touches next) (by simp [footprint]) (execPumpRunningChange_lines next))
    | encoderLineChange a b =>
      exact .of_rests (.of_lines (exec_touches next) (by simp [footprint]) (execEncoderLineChange_lines next))
    | homeSwitchEdge closed =>
      exact .of_rests (.of_lines (exec_touches next) (by simp [footprint]) (execHomeSwitchEdge_lines next))
    | headDriveChange level =>
      exact .of_rests (.of_lines (exec_touches next) (by simp [footprint]) (execHeadDriveChange_lines next))
    | _ => simp [footprint] at apart

end Sys2Proof.Machine

namespace Sys2Proof

open Machine

/-! ### The obligation -/

/-- Settles O59: the cycle is read off state, step, slot, fault, marker and transit rod; every operation that changes
it writes the marker, and every command that can end a step settles the sequencer. -/
theorem sequencerStaysConsistent : Obligations.SequencerStaysConsistent := by
  intro s t next
  rcases step_cases next with ⟨_, rfl⟩ | ⟨c, rest, _, run⟩
  · exact State.SequencerKept.of_rests s.idle_rests
  · have kept := exec_keepsSequencer run
    exact kept

end Sys2Proof
end

section
/-! SUPPORT. The step, one bit time on an empty queue and what is due in it, and the reset values. -/

namespace Sys2Proof.Machine

/-! ### One bit time -/

/-- The time base at the end of its 100 ms step waits. -/
theorem State.bitTime_of_full {s : State} (full : 12500 ≤ s.time.sub) : s.bitTime = s := if_pos full

theorem State.bitTime_of_running {s : State} (running : s.time.sub < 12500) :
    s.bitTime =
      let moved : State := { s with time := ⟨s.time.tenths, s.time.sub + 1⟩ }
      if (s.time.sub + 1) % 1250 = 0 then moved.ages 1 else moved :=
  if_neg (Nat.not_le.mpr running)

theorem State.bitTime_port (s : State) : s.bitTime.port = s.port := by
  unfold State.bitTime
  dsimp only
  (repeat' split) <;> rfl

/-! ### What is due -/

theorem State.expired_iff (s : State) (deadline : Option Nat) :
    s.expired deadline = true ↔ ∃ t, deadline = some t ∧ t ≤ s.now := by
  cases deadline <;> simp [State.expired]

theorem mem_slotNames (n : SlotName) : n ∈ slotNames := by
  rcases n with _ | r
  · decide
  · cases r <;> decide

theorem State.mem_slotEvents (s : State) (c : Instr) :
    c ∈ s.slotEvents ↔ ∃ st n,
      (s.peers[st].freshness n = .fresh ∧ 150 ≤ s.peers[st].age n ∧ c = .slotStale st n) ∨
      (s.peers[st].freshness n = .stale ∧ 1000 ≤ s.peers[st].age n ∧ c = .slotLost st n) := by
  simp only [State.slotEvents, List.mem_flatMap, mem_stations, mem_slotNames, true_and]
  refine exists_congr fun st => exists_congr fun n => ?_
  show _ ↔ (_ ∧ Config.staleAge ≤ _ ∧ _) ∨ _ ∧ Config.lostAge ≤ _ ∧ _
  split <;> simp_all

theorem State.mem_silenceEvents (s : State) (c : Instr) :
    c ∈ s.silenceEvents ↔ ∃ st e, s.holds.others[st] = some e ∧ e.state = .active ∧ 1000 ≤ e.silence ∧
      s.peers[st].presence.freshness.heard = false ∧ c = .holdSilenceExpiry st := by
  simp only [State.silenceEvents, List.mem_flatMap, mem_stations, true_and]
  refine exists_congr fun st => ?_
  split
  case h_1 e entry => simp [entry, Config.lostAge, and_assoc]
  case h_2 none => simp [none]

theorem State.mem_stepExpiries (s : State) (c : Instr) :
    c ∈ s.stepExpiries ↔ (s.stepTimerRuns = true ∧ s.seq.timer ≤ 1 ∧ c = .stepTimerExpiry) ∨
      ∃ p, s.pumpTimerRuns p = true ∧ (s.circ.pump p).timer ≤ 1 ∧ c = .pumpTimerExpiry p := by
  have pump (p : Pump) : p ∈ [Pump.one, Pump.two] := by cases p <;> simp
  simp only [State.stepExpiries, List.mem_append, List.mem_flatMap, pump, true_and]
  refine or_congr ?_ (exists_congr fun p => ?_)
  · simp [and_assoc]
  · simp [and_assoc]

/-- What is due, place by place. -/
theorem State.mem_dueEvents (s : State) (c : Instr) :
    c ∈ s.dueEvents ↔
      (12500 ≤ s.time.sub ∧ (c ∈ s.stepExpiries ∨ c = .timeBaseStep)) ∨ c ∈ s.slotEvents ∨ c ∈ s.silenceEvents ∨
      (s.expired s.timers.clock = true ∧ c = .clockSecond) ∨ (s.expired s.timers.send = true ∧ c = .sendPeriodExpiry) ∨
      (s.expired s.timers.listen = true ∧ c = .listenTimerExpiry) ∨
      (s.expired s.timers.balance = true ∧ c = .balancePeriodExpiry) ∨
      (s.expired s.timers.rop = true ∧ c = .ropSampleExpiry) ∨
      (s.expired s.timers.second = true ∧ c = .secondStep) ∨
      ((s.expired (s.depth.rotation.map (· + 125000)) = true ∧ s.acts .head = true) ∧ c = .rotationWaitExpiry) ∨
      (s.expired s.timers.scan = true ∧ c = .verifyScanStep) ∨ (s.mayBegin = true ∧ c = .frameBegin) := by
  simp only [State.dueEvents, List.mem_append, List.mem_ite_nil_right, List.mem_singleton, or_assoc, Bool.and_eq_true]
  rfl

/-! ### Due, command by command -/

theorem State.due_timeBaseStep (s : State) : .timeBaseStep ∈ s.dueEvents ↔ 12500 ≤ s.time.sub := by
  simp [State.mem_dueEvents, State.mem_slotEvents, State.mem_silenceEvents]

theorem State.due_stepTimerExpiry (s : State) :
    .stepTimerExpiry ∈ s.dueEvents ↔ 12500 ≤ s.time.sub ∧ s.stepTimerRuns = true ∧ s.seq.timer ≤ 1 := by
  simp [State.mem_dueEvents, State.mem_slotEvents, State.mem_silenceEvents, State.mem_stepExpiries]

theorem State.due_pumpTimerExpiry (s : State) (p : Pump) :
    .pumpTimerExpiry p ∈ s.dueEvents ↔ 12500 ≤ s.time.sub ∧ s.pumpTimerRuns p = true ∧ (s.circ.pump p).timer ≤ 1 := by
  simp [State.mem_dueEvents, State.mem_slotEvents, State.mem_silenceEvents, State.mem_stepExpiries]

/-- The two indices that a command names are those of the pair it is due for. -/
theorem exists_pair_iff {α β : Type} {a : α} {b : β} {p q : α → β → Prop} :
    (∃ x y, p x y ∧ q x y ∧ a = x ∧ b = y) ↔ p a b ∧ q a b :=
  ⟨fun ⟨_, _, left, right, one, two⟩ => by subst one two; exact ⟨left, right⟩, fun ⟨left, right⟩ => ⟨a, b, left, right, rfl, rfl⟩⟩

theorem State.expired_map_iff (s : State) (start : Option Nat) (wait : Nat) :
    s.expired (start.map (· + wait)) = true ↔ ∃ r, start = some r ∧ r + wait ≤ s.now := by
  cases start <;> simp [State.expired]

theorem State.due_slotStale (s : State) (st : Station) (n : SlotName) :
    .slotStale st n ∈ s.dueEvents ↔ s.peers[st].freshness n = .fresh ∧ 150 ≤ s.peers[st].age n := by
  simp [State.mem_dueEvents, State.mem_slotEvents, State.mem_silenceEvents, State.mem_stepExpiries, exists_pair_iff]

theorem State.due_slotLost (s : State) (st : Station) (n : SlotName) :
    .slotLost st n ∈ s.dueEvents ↔ s.peers[st].freshness n = .stale ∧ 1000 ≤ s.peers[st].age n := by
  simp [State.mem_dueEvents, State.mem_slotEvents, State.mem_silenceEvents, State.mem_stepExpiries, exists_pair_iff]

theorem Freshness.not_heard_iff (f : Freshness) : f.heard = false ↔ f = .unheard ∨ f = .lost := by
  cases f <;> simp [Freshness.heard]

theorem State.due_holdSilenceExpiry (s : State) (st : Station) :
    .holdSilenceExpiry st ∈ s.dueEvents ↔
      (∃ e, s.holds.others[st] = some e ∧ e.state = .active ∧ 1000 ≤ e.silence) ∧
        (s.peers[st].presence.freshness = .unheard ∨ s.peers[st].presence.freshness = .lost) := by
  simp [State.mem_dueEvents, State.mem_slotEvents, State.mem_silenceEvents, State.mem_stepExpiries,
    ← Freshness.not_heard_iff, ← and_assoc]

theorem State.due_rotationWaitExpiry (s : State) :
    .rotationWaitExpiry ∈ s.dueEvents ↔
      s.acts .head = true ∧ ∃ r, s.depth.rotation = some r ∧ r + 125000 ≤ s.now := by
  simp [State.mem_dueEvents, State.mem_slotEvents, State.mem_silenceEvents, State.mem_stepExpiries,
    State.expired_map_iff, and_comm]

theorem State.sendPending_iff (s : State) :
    s.sendPending = true ↔ (s.node.state = .listen ∧ s.link.due.presence = true) ∨
      (s.node.state = .running ∧ (s.link.holdFrame ≠ none ∨ s.link.queue ≠ [] ∨ s.link.due ≠ .none)) := by
  unfold State.sendPending
  split <;> simp_all [Option.isSome_iff_ne_none, or_assoc]

theorem State.due_frameBegin (s : State) :
    .frameBegin ∈ s.dueEvents ↔ s.link.line = .idle ∧ s.link.mute = none ∧ s.station ≠ none ∧ s.sendPending = true := by
  simp [State.mem_dueEvents, State.mem_slotEvents, State.mem_silenceEvents, State.mem_stepExpiries, State.mayBegin,
    Option.isSome_iff_ne_none, and_assoc]

end Sys2Proof.Machine

namespace Sys2Proof

open Machine

/-! ### The obligations -/

/-- Settles O1: a step is defined so. -/
theorem stepRunsTheFrontCommand : Obligations.StepRunsTheFrontCommand := fun _ _ _ => rfl

/-- Settles O2: one bit time by the cases of its definition, and what is due by the places of the list. -/
theorem emptyQueueLetsABitTimePass : Obligations.EmptyQueueLetsABitTimePass := by
  refine ⟨fun s empty => ⟨?_, fun running => ?_, State.bitTime_of_full,
    fun running tick => ?_, fun running rest => ?_, ?_⟩, fun s => ?_⟩
  · simp [step, empty, State.idle, s.bitTime_port]
  · rw [State.bitTime_of_running running]
    dsimp only
    split <;> rfl
  · rw [State.bitTime_of_running running]
    simp only [tick, if_true]
    exact ⟨rfl, rfl⟩
  · rw [State.bitTime_of_running running]
    simp only [rest, if_false]
    exact ⟨trivial, trivial⟩
  · rcases Nat.lt_or_ge s.time.sub 12500 with running | full
    · rw [State.bitTime_of_running running]
      dsimp only
      split <;> rfl
    · rw [State.bitTime_of_full full]
  · refine ⟨s.due_timeBaseStep, s.due_stepTimerExpiry, fun p => ?_, s.due_slotStale, s.due_slotLost,
      s.due_holdSilenceExpiry, ?_, s.due_rotationWaitExpiry, ?_, ?_⟩
    · refine (s.due_pumpTimerExpiry p).trans ?_
      simp [State.pumpTimerRuns, and_assoc]
    · simp [State.mem_dueEvents, State.mem_slotEvents, State.mem_silenceEvents, State.mem_stepExpiries, State.expired_iff]
    · rw [← State.sendPending_iff]
      exact s.due_frameBegin
    · intro c due
      simp only [State.mem_dueEvents, State.mem_slotEvents, State.mem_silenceEvents, State.mem_stepExpiries] at due
      rcases due with ⟨_, (⟨_, _, rfl⟩ | ⟨p, _, _, rfl⟩) | rfl⟩ | ⟨st, n, ⟨_, _, rfl⟩ | ⟨_, _, rfl⟩⟩ |
        ⟨st, _, _, _, _, _, rfl⟩ | ⟨_, rfl⟩ | ⟨_, rfl⟩ | ⟨_, rfl⟩ | ⟨_, rfl⟩ | ⟨_, rfl⟩ | ⟨_, rfl⟩ | ⟨_, rfl⟩ | ⟨_, rfl⟩ |
        ⟨_, rfl⟩ <;> simp

/-- Settles O4: the reset values are the model's, each by evaluation. -/
theorem resetLeavesTheStatedValues : Obligations.ResetLeavesTheStatedValues := by
  unfold Obligations.ResetLeavesTheStatedValues
  dsimp only
  refine ⟨by and_intros <;> rfl, by and_intros <;> rfl, by and_intros <;> rfl, fun st => ?_, fun r => ?_,
    by and_intros <;> rfl, by and_intros <;> rfl, ⟨by decide, rfl, fun st => ?_⟩, ⟨fun i => ?_, by and_intros <;> rfl⟩,
    by and_intros <;> rfl, fun p => ?_, by and_intros <;> rfl, ⟨fun i => ?_, by and_intros <;> rfl⟩,
    by and_intros <;> rfl, by and_intros <;> rfl, by and_intros <;> rfl⟩
  · simp [State.reset, peersAtReset, PeerEntry.unheard]
  · exact ownerIn_peersAtReset r
  · simp [State.reset, Holds.atReset]
  · simp [State.reset, Inventory.initial]
  · cases p <;> and_intros <;> rfl
  · simp [State.reset, Balance.atReset, PitRecord.atReset]

/-- Settles O52: every invariant is decided at the reset state. -/
theorem invariantsHoldAtReset : Obligations.InvariantsHoldAtReset := by
  unfold Obligations.InvariantsHoldAtReset
  refine ⟨by decide, by decide, by decide, by decide, by decide, by decide, by decide, by decide, by decide, by decide,
    by decide, by decide, by decide, ?_⟩
  exact State.stepsTaken_of_state (by decide)

end Sys2Proof
end

section
/-! SUPPORT. The station port (chapter 11): the checks of R2 on role requests, decoding and the answers. -/

namespace Sys2Proof.Machine

/-! ### Role requests (R2) -/

/-- A role request is checked by R2, and outside the read-outs by the node state too. -/
theorem exec_of_requestRole {c : Instr} {r : Role} (role : requestRole c = some r) :
    (servedAlways c = true ∧ ∃ f, ∀ s, exec c s = answered c (s.roleRequest r f)) ∨
      ∃ f, ∀ s, exec c s = answered c (s.runningRequest r f) := by
  cases c <;> cases role
  case readRack | readString | fetchRecord | readCursor | fetchSummary | readMeters =>
    exact .inl ⟨rfl, _, fun _ => rfl⟩
  all_goals exact .inr ⟨_, fun _ => rfl⟩

theorem State.roleRequest_notRole {s : State} {r : Role} (f : State → Answered) (missing : s.holdsRole r = false) :
    s.roleRequest r f = (refuse .notRole, s) := by
  simp [State.roleRequest, missing]

theorem State.roleRequest_yielded {s : State} {r : Role} (f : State → Answered) (held : s.holdsRole r = true)
    (yielded : s.yields r = true) : s.roleRequest r f = (refuse .roleYielded, s) := by
  simp [State.roleRequest, held, yielded]

/-- An active role's request of an acting block, outside RUNNING (R61). -/
theorem State.runningRequest_badState {s : State} {r : Role} (f : State → Answered) (active : s.active r = true)
    (state : s.node.state ≠ .running) : s.runningRequest r f = (refuse .badState, s) := by
  have still : s.running = false := by simp [State.running, state]
  simp only [State.active, Bool.and_eq_true, Bool.not_eq_true'] at active
  obtain ⟨held, kept⟩ := active
  rw [State.runningRequest, State.roleRequest_active s r _ held kept]
  simp [still, State.refused]

/-! ### Decoding (R164, section 11.4) -/

/-- Every command byte of section 11.4 stands for a request. -/
theorem exists_requestOf {code : Nat} {range : Nat × Nat} (known : bodyLengths code = some range) (b : List Byte) :
    ∃ i, requestOf code b = some i := by
  unfold bodyLengths at known
  split at known
  all_goals cases known
  all_goals exact ⟨_, rfl⟩

/-- The body lengths of section 11.4: least, greatest, and the command bytes that take them. -/
def commandLengths : List (Nat × Nat × List Nat) := [
  (0, 0, [0x01, 0x02, 0x05, 0x09, 0x0A, 0x0C, 0x25, 0x26, 0x27, 0x28, 0x29, 0x2C, 0x2D, 0x2E, 0x2F, 0x31, 0x42, 0x43,
    0x50, 0x53, 0x56, 0x57, 0x61, 0x62, 0x63, 0x64, 0x65]),
  (1, 1, [0x04, 0x06, 0x07, 0x21, 0x23, 0x2A, 0x2B, 0x40, 0x41, 0x51, 0x52]),
  (2, 2, [0x24, 0x30, 0x54, 0x60]), (3, 3, [0x44]), (4, 4, [0x03, 0x66]), (5, 5, [0x0D, 0x55]),
  (7, 7, [0x22]), (8, 8, [0x20]), (2, 6, [0x08]), (1, 66, [0x0B])]

/-- A command byte that takes a body length stands in the table. -/
theorem mem_commandLengths {code : Nat} {range : Nat × Nat} (known : bodyLengths code = some range) :
    ∃ l ∈ commandLengths, code ∈ l.2.2 := by
  unfold bodyLengths at known
  split at known
  all_goals cases known
  all_goals decide

theorem execRequestDecode_cons {b : Byte} (rest : List Byte) (s : State) (request : b ≠ 0#8) :
    exec (.requestDecode (b :: rest)) s = .next { s with port := s.port.decode b rest } := by
  have eq : (if b = 0#8 then { s with port := s.port.read (b :: rest).length }
      else { s with port := s.port.decode b rest }) = { s with port := s.port.decode b rest } := if_neg request
  exact congrArg Host.Outcome.next eq

/-- A transaction discarded answers with its reply at once. -/
theorem Port.decode_discarded {p : Port} {b : Byte} {rest : List Byte} {r : Reply}
    (discarded : decodeRequest b rest = .discarded r) :
    p.decode b rest = { p with
      status := r.status, body := r.body, readPos := 0
      out := BitVec.ofNat 8 (statusCode p.status) :: List.replicate rest.length 0#8 } := by
  simp only [Port.decode, discarded]
  rfl

theorem Port.decode_taken {p : Port} {b : Byte} {rest : List Byte} {i : Instr} (taken : decodeRequest b rest = .taken i) :
    p.decode b rest =
      { status := .pending, body := [], readPos := 0, taken := p.taken ++ [i]
        out := BitVec.ofNat 8 (statusCode p.status) :: List.replicate rest.length 0#8 } := by
  simp only [Port.decode, taken]

end Sys2Proof.Machine

namespace Sys2Proof

open Machine

/-- Settles O5: each role request passes through R2's checks, and all but the read-outs through that of the state. -/
theorem roleRequestsAreChecked : Obligations.RoleRequestsAreChecked := by
  intro c r s role
  rcases exec_of_requestRole role with ⟨served, f, exec_eq⟩ | ⟨f, exec_eq⟩
  · refine ⟨fun missing => ?_, fun held yielded => ?_, fun _ waits => ?_⟩
    · rw [exec_eq, State.roleRequest_notRole f missing]; rfl
    · rw [exec_eq, State.roleRequest_yielded f held yielded]; rfl
    · rw [served] at waits; cases waits
  · refine ⟨fun missing => ?_, fun held yielded => ?_, fun active _ state => ?_⟩
    · rw [exec_eq, State.runningRequest, State.roleRequest_notRole _ missing]; rfl
    · rw [exec_eq, State.runningRequest, State.roleRequest_yielded _ held yielded]; rfl
    · rw [exec_eq, State.runningRequest_badState f active state]; rfl

/-- Settles O6: the tables of section 11.4 by evaluation, and decoding by the cases of R164. -/
theorem requestDecodeFollowsItsTable : Obligations.RequestDecodeFollowsItsTable := by
  intro command rest s
  refine ⟨by decide, fun code unlisted => ?_, ?_, fun a b c d e f g h more => ?_, rfl, fun read => ?_,
    fun request unknown => ?_, fun least most request known => ⟨fun empty => ?_, fun length body whole => ?_⟩⟩
  · rw [Option.eq_none_iff_forall_ne_some]
    intro range known
    obtain ⟨l, listed, mem⟩ := mem_commandLengths known
    exact unlisted l listed mem
  · decide
  · have fields (read : Option Instr) {i : Instr} (eq : read = some i) (j : Instr) (same : i = j) : read = some j :=
      same ▸ eq
    refine ⟨?_, fields _ rfl _ ?_, fields _ rfl _ ?_, fields _ rfl _ ?_, fields _ rfl _ ?_, fields _ rfl _ ?_,
      fields _ rfl _ ?_, fields _ rfl _ ?_, fields _ rfl _ ?_, fields _ rfl _ ?_, fields _ rfl _ ?_, fields _ rfl _ ?_,
      fields _ rfl _ ?_, fields _ rfl _ ?_⟩
    · intro p listed
      have head : byteAt [a] 0 = a := byteAt_head a []
      simp only [List.mem_cons, List.not_mem_nil, or_false] at listed
      rcases listed with rfl | rfl | rfl | rfl | rfl | rfl | rfl | rfl | rfl | rfl | rfl <;>
        exact fields _ rfl _ (congrArg _ head)
    all_goals simp only [byteAt_head, byteAt_succ, wordAt_succ, wordAt_pair, quadAt_succ, quadAt_four, List.drop_succ_cons,
      List.drop_zero]
  · subst read; rfl
  · rw [execRequestDecode_cons rest s request, Port.decode_discarded (r := refuse .unknown)]
    · rfl
    · simp [decodeRequest, unknown]
  · rw [execRequestDecode_cons rest s request, Port.decode_discarded (r := refuse .truncated)]
    · rfl
    · simp [decodeRequest, known, empty]
  · subst whole
    refine ⟨fun short => ?_, fun enough outside => ?_, fun enough small low high => ?_⟩
    · rw [execRequestDecode_cons _ s request, Port.decode_discarded (r := refuse .truncated)]
      · rfl
      · simp [decodeRequest, known, short]
    · rw [execRequestDecode_cons _ s request, Port.decode_discarded (r := badValue 0)]
      · rfl
      · simp [decodeRequest, known, Nat.not_lt.mpr enough, outside]
    · obtain ⟨i, decoded⟩ := exists_requestOf known (body.take length.toNat)
      refine ⟨i, decoded, ?_⟩
      rw [execRequestDecode_cons _ s request, Port.decode_taken (i := i)]
      have inside : ¬(66 < length.toNat ∨ length.toNat < least ∨ most < length.toNat) := by omega
      simp [decodeRequest, known, Nat.not_lt.mpr enough, inside, decoded]

end Sys2Proof
end

section
/-! SUPPORT. Answers: where they go, how they are read, and the cause set (R164 to R168). -/

namespace Sys2Proof.Machine

/-! ### The response (R165) -/

theorem Port.read_succ (p : Port) (k : Nat) :
    p.read (k + 1) = { p with
      readPos := p.readPos + (p.unread.take k).length
      out := BitVec.ofNat 8 (statusCode p.status) ::
        (p.unread.take k ++ List.replicate (k - (p.unread.take k).length) 0#8) } :=
  rfl

theorem noBody_iff (c : Status) :
    noBody c = true ↔ c = .pending ∨ c = .unknown ∨ c = .truncated ∨ c = .noRequest := by
  simp [noBody, or_assoc]

/-! ### The cause set (R167, R168) -/

theorem allCauses_and_eq_zero_iff (named : BitVec 32) :
    named &&& ~~~allCauses = 0#32 ↔ ∀ i, 18 ≤ i → named.getLsbD i = false := by
  simp only [BitVec.zero_iff_eq_false, BitVec.getLsbD_and, BitVec.getLsbD_not, allCauses_getLsbD]
  refine forall_congr' fun i => ?_
  rcases Nat.lt_or_ge i 18 with low | high
  · simp [low, Nat.not_le.mpr low]
  · rcases Nat.lt_or_ge i 32 with inside | outside
    · simp [inside, high, Nat.not_lt.mpr high]
    · simp [BitVec.getLsbD_of_ge, outside]

theorem execClearAttention_eq (named : BitVec 32) (s : State) :
    exec (.clearAttention named) s = answered (.clearAttention named) (clearAttentionRequest named s) := rfl

end Sys2Proof.Machine

namespace Sys2Proof

open Machine

/-- Settles O7: a read takes what is left of the body from the read position; an answer goes where `Port.finish` puts
it. -/
theorem responsesAreFilledAndRead : Obligations.ResponsesAreFilledAndRead := by
  intro n i r s
  dsimp only
  refine ⟨rfl, fun exists_ => ?_, fun missing => ?_, fun fresh => ?_, fun earlier last first waits => ?_,
    fun taken gone => ?_⟩
  · have body : noBody s.port.status = false := by
      obtain ⟨pending, unknown, truncated, noRequest⟩ := exists_
      simp [noBody, pending, unknown, truncated, noRequest]
    have eq : exec (.responseRead (n + 1)) s = .next { s with port := s.port.read (n + 1) } := rfl
    rw [eq, Port.read_succ]
    simp [Port.unread, body]
    omega
  · have none : noBody s.port.status = true := by
      rw [noBody_iff]
      exact Decidable.byContradiction fun other => missing (by simpa only [not_or, ne_eq] using other)
    have eq : exec (.responseRead (n + 1)) s = .next { s with port := s.port.read (n + 1) } := rfl
    rw [eq, Port.read_succ]
    simp [Port.unread, none]
  · exact Port.finish_direct _ i r fresh
  · exact Port.finish_last _ i r earlier last first waits
  · exact Port.finish_earlier _ i r taken gone

/-- Settles O8: a cause is cleared by its bit, STORE_FAULT excepted, and no bit above 17 may be named. -/
theorem attentionCausesAreReadAndCleared : Obligations.AttentionCausesAreReadAndCleared := by
  intro named s
  refine ⟨rfl, fun ⟨i, high, bit⟩ => ?_, fun low => ?_⟩
  · have outside : named &&& ~~~allCauses ≠ 0#32 := fun zero => by
      rw [(allCauses_and_eq_zero_iff named).mp zero i high] at bit
      cases bit
    rw [execClearAttention_eq, clearAttentionRequest, if_pos outside]
    rfl
  · refine ⟨s.causes &&& ~~~(named &&& ~~~causeBit .storeFault), fun i => ?_, ?_⟩
    · have place : codeOf causeTable .storeFault = 15 := by decide
      simp only [BitVec.getLsbD_and, BitVec.getLsbD_not, causeBit_getLsbD, place]
      rcases Nat.lt_or_ge i 32 with inside | outside
      · by_cases storeFault : i = 15
        · simp [storeFault]
        · have other : (i == 15) = false := beq_false_of_ne storeFault
          simp [inside, storeFault, other]
      · simp [BitVec.getLsbD_of_ge, outside]
    · have known : ¬named &&& ~~~allCauses ≠ 0#32 := not_not_intro ((allCauses_and_eq_zero_iff named).mpr low)
      rw [execClearAttention_eq, clearAttentionRequest, if_neg known]
      rfl

end Sys2Proof
end

section
/-! SUPPORT. The rig holds (chapter 3): the set replaced, local reasons, entries, and the requests on them. -/

namespace Sys2Proof.Machine

/-! ### The held edge (R51, R77, R82) -/

theorem State.heldEdge_pauses {s : State} (acts : s.acts .handler = true) (left : 0 < s.seq.plan.remaining)
    (sound : s.seq.plan.faultPause = false) :
    s.heldEdge = { s with seq := { s.seq with plan := { s.seq.plan with holdPause := true } } } := by
  simp [State.heldEdge, acts, left, sound]

theorem State.heldEdge_same {s : State}
    (still : ¬(s.acts .handler = true ∧ 0 < s.seq.plan.remaining ∧ s.seq.plan.faultPause = false)) : s.heldEdge = s := by
  unfold State.heldEdge
  refine if_neg fun edge => still ?_
  simpa [and_assoc] using edge

/-- The held edge reads node and sequencer alone. -/
theorem State.heldEdge_seq_congr {s t : State} (node : t.node = s.node) (seq : t.seq = s.seq) :
    t.heldEdge.seq = s.heldEdge.seq := by
  have acts : t.acts .handler = s.acts .handler := State.acts_congr node .handler
  unfold State.heldEdge
  rw [acts, seq]
  split <;> simp only [seq]

theorem State.heldEdge_eq (s : State) : s.heldEdge = { s with seq := s.heldEdge.seq } := by
  unfold State.heldEdge
  split <;> rfl

/-! ### The set replaced (R49) -/

/-- The set replaced while the rig stays as held as it was, or is no longer held. -/
theorem State.withHolds_quiet {s : State} {h : Holds} (changed : Bool)
    (quiet : s.held = true ∨ ({ s with holds := h } : State).held = false) :
    s.withHolds h changed = ({ s with holds := h } : State).raiseIf changed .holdChanged := by
  unfold State.withHolds
  dsimp only
  refine if_neg fun edge => ?_
  have held : (({ s with holds := h } : State).raiseIf changed .holdChanged).held = ({ s with holds := h } : State).held :=
    State.held_congr (by simp)
  rw [held] at edge
  simp only [Bool.and_eq_true, Bool.not_eq_true'] at edge
  obtain ⟨free, held'⟩ := edge
  rcases quiet with still | gone
  · rw [still] at free; cases free
  · rw [gone] at held'; cases held'

/-- The set replaced by one that holds the rig: a rig that was free has the held edge. -/
theorem State.withHolds_held {s : State} {h : Holds} (changed : Bool)
    (held : ({ s with holds := h } : State).held = true) :
    s.withHolds h changed =
      { s with
        holds := h
        causes := if changed then s.causes ||| causeBit .holdChanged else s.causes
        seq := if s.held then s.seq else s.heldEdge.seq } := by
  have raised : (({ s with holds := h } : State).raiseIf changed .holdChanged) =
      { s with holds := h, causes := if changed then s.causes ||| causeBit .holdChanged else s.causes } := by
    cases changed <;> rfl
  cases before : s.held
  · unfold State.withHolds
    dsimp only
    have held' : (({ s with holds := h } : State).raiseIf changed .holdChanged).held = true :=
      (State.held_congr (by simp)).trans held
    rw [if_pos (by simp [before, held']), State.heldEdge_eq, raised]
    simp [State.heldEdge_seq_congr (s := s)]
  · rw [State.withHolds_quiet changed (.inl before), raised]
    simp

/-! ### Local reasons (R43, R44) -/

theorem ReasonSet.set_has (m : ReasonSet) (r : HoldReason) : m.set (m.has r) r = m := by
  cases r <;> rfl

@[simp] theorem ReasonSet.has_set (m : ReasonSet) (b : Bool) (r : HoldReason) : (m.set b r).has r = b := by
  cases r <;> rfl

theorem ReasonSet.set_ne_of_has {m : ReasonSet} {b : Bool} {r : HoldReason} (has : m.has r = !b) : m.set b r ≠ m := by
  intro same
  have eq := m.has_set b r
  rw [same, has] at eq
  cases b <;> cases eq

theorem ReasonSet.set_true_ne_empty (m : ReasonSet) (r : HoldReason) : m.set true r ≠ .empty := by
  intro same
  have eq := m.has_set true r
  rw [same] at eq
  cases r <;> cases eq

theorem ReasonSet.ne_empty_of_has {m : ReasonSet} {r : HoldReason} (has : m.has r = true) : m ≠ .empty := by
  rw [← m.set_has r, has]
  exact m.set_true_ne_empty r

/-- The link after a change of the local reasons: with the frame placed that the change asks for (R43, R44). -/
def Link.holdFramePlaced (k : Link) (old new : ReasonSet) : Link :=
  match holdFrameFor old new with
  | some f => k.placeHold f
  | none => k

/-- The local reasons changed: the frame first, then the set. -/
theorem State.setReasons_of_ne {s : State} {new : ReasonSet} (change : new ≠ s.holds.reasons) :
    s.setReasons new = State.withHolds { s.holds with reasons := new } true
      { s with link := s.link.holdFramePlaced s.holds.reasons new } := by
  unfold State.setReasons Link.holdFramePlaced
  rw [if_neg change]
  cases holdFrameFor s.holds.reasons new <;> rfl

theorem Link.holdFramePlaced_eq (k : Link) (old new : ReasonSet) :
    k.holdFramePlaced old new =
      if new = .empty then k.placeHold .release else if old.first = new.first then k else k.placeHold .set := by
  unfold Link.holdFramePlaced holdFrameFor
  by_cases empty : new = .empty
  · simp [empty]
  · by_cases same : old.first = new.first <;> simp [empty, same]

theorem State.held_of_reasons {s : State} (reasons : s.holds.reasons ≠ .empty) : s.held = true :=
  s.held_iff.mpr (.inl reasons)

/-- The local reasons changed to others that hold the rig. -/
theorem State.setReasons_holding {s : State} {new : ReasonSet} (change : new ≠ s.holds.reasons) (holds : new ≠ .empty) :
    s.setReasons new = { s with
      holds := { s.holds with reasons := new }
      causes := s.causes ||| causeBit .holdChanged
      link := s.link.holdFramePlaced s.holds.reasons new
      seq := if s.held then s.seq else s.heldEdge.seq } := by
  have edge (k : Link) : ({ s with link := k } : State).heldEdge.seq = s.heldEdge.seq :=
    State.heldEdge_seq_congr rfl rfl
  rw [State.setReasons_of_ne change, State.withHolds_held true (State.held_of_reasons holds), edge]
  rfl

/-- The local reasons of a rig that is held changed: no edge follows. -/
theorem State.setReasons_held {s : State} {new : ReasonSet} (change : new ≠ s.holds.reasons) (held : s.held = true) :
    s.setReasons new = { s with
      holds := { s.holds with reasons := new }
      causes := s.causes ||| causeBit .holdChanged
      link := s.link.holdFramePlaced s.holds.reasons new } := by
  rw [State.setReasons_of_ne change]
  exact State.withHolds_quiet (s := { s with link := s.link.holdFramePlaced s.holds.reasons new }) true (.inl held)

@[simp] theorem State.setReasons_reasons (new : ReasonSet) (s : State) : (s.setReasons new).holds.reasons = new := by
  by_cases same : new = s.holds.reasons
  · rw [State.setReasons, if_pos same, same]
  · rw [State.setReasons_of_ne same, State.withHolds_holds]

/-! ### Requests (R43, R44, R48) -/

theorem State.reasonsReply_setReasons (new : ReasonSet) (s : State) :
    reasonsReply (s.setReasons new) = ⟨.ok, reasonSetField new⟩ := by
  rw [reasonsReply, State.setReasons_reasons]
  rfl

theorem exec_hold (s : State) : exec .hold s = answered .hold (holdRequest s) := rfl

theorem exec_releaseHold (b : Byte) (s : State) :
    exec (.releaseHold b) s = answered (.releaseHold b) (releaseHoldRequest b s) := rfl

theorem exec_clearHold (b : Byte) (s : State) :
    exec (.clearHold b) s = answered (.clearHold b) (clearHoldRequest b s) := rfl

theorem stationOf_val {n : Nat} {st : Station} (number : n = st.val) : stationOf n = some st := by
  simp [stationOf, number]

theorem stationOf_eq_none {n : Nat} (large : 8 ≤ n) : stationOf n = none := by
  simp [stationOf, Nat.not_lt.mpr large]

theorem holdReasonOf {n : Nat} {r : HoldReason} (code : n = codeOf holdReasonTable r) : holdReasonTable[n]? = some r :=
  code ▸ holdReasonTable_code r

theorem sequencerReason_iff (r : HoldReason) : sequencerReason r = true ↔ r = .handlingFault ∨ r = .recovery := by
  simp [sequencerReason]

/-- An entry removed from a set that holds the rig. -/
theorem State.setEntry_none {s : State} {st : Station} {e : HoldEntry} (entry : s.holds.others[st] = some e) :
    s.setEntry st none = { s with
      holds := { s.holds with others := put s.holds.others st none }
      causes := s.causes ||| causeBit .holdChanged } := by
  have face : (entryFace s.holds.others[st] != entryFace none) = true := by simp [entryFace, entry]
  rw [State.setEntry, face]
  exact State.withHolds_quiet true (.inl (State.held_of_entry entry))

end Sys2Proof.Machine

namespace Sys2Proof

open Machine

/-- Settles O11: the set replaced by one with a member more or less, with the frame that the change of the first
member asks for. -/
theorem localReasonsChange : Obligations.LocalReasonsChange := by
  intro r s
  refine ⟨fun has => ?_, fun free => ?_, fun free => ?_, fun has => ?_,
    fun ⟨acts, left, sound⟩ => State.heldEdge_pauses acts left sound, State.heldEdge_same⟩
  · have same : s.holds.reasons.set true r = s.holds.reasons := by simpa [has] using s.holds.reasons.set_has r
    rw [State.placeReason, State.setReasons, if_pos same]
  · have placed := s.holds.reasons.set_true_ne_empty r
    rw [State.placeReason, State.setReasons_holding (ReasonSet.set_ne_of_has (by simpa using free)) placed,
      Link.holdFramePlaced_eq, if_neg placed]
  · have same : s.holds.reasons.set false r = s.holds.reasons := by simpa [free] using s.holds.reasons.set_has r
    rw [State.removeReason, State.setReasons, if_pos same]
  · have held : s.held = true := State.held_of_reasons (ReasonSet.ne_empty_of_has has)
    rw [State.removeReason, State.setReasons_held (ReasonSet.set_ne_of_has (by simpa using has)) held,
      Link.holdFramePlaced_eq]

/-- Settles O12: the requests' checks in order, on the reason or the station that the byte names. -/
theorem holdRequestsChangeTheSet : Obligations.HoldRequestsChangeTheSet := by
  intro r st b s
  refine ⟨fun running => ?_, fun still => ?_, fun code has own => ?_, fun code free => ?_, fun code has its active => ?_,
    fun large => ?_, fun e number entry orphaned => ?_, fun e number entry active => ?_, fun number none => ?_,
    fun large => ?_⟩
  · have now : s.running = true := by simp [State.running, running]
    rw [exec_hold, holdRequest, if_pos now, State.placeReason]
    dsimp only
    rw [State.reasonsReply_setReasons]
    rfl
  · have now : ¬s.running = true := by simp [State.running, still]
    rw [exec_hold, holdRequest, if_neg now]
    rfl
  · have allowed : (sequencerReason r && s.active .handler) = false := by
      rcases own with rfl | rfl | inactive
      · rfl
      · rfl
      · simp [inactive]
    rw [exec_releaseHold, releaseHoldRequest, holdReasonOf code]
    simp only [has, allowed, Bool.not_true, Bool.false_eq_true, if_false]
    rw [State.removeReason, State.reasonsReply_setReasons]
    rfl
  · rw [exec_releaseHold, releaseHoldRequest, holdReasonOf code]
    simp only [free, Bool.not_false, if_true]
    rfl
  · rw [exec_releaseHold, releaseHoldRequest, holdReasonOf code]
    simp only [has, (sequencerReason_iff r).mpr its, active, Bool.not_true, Bool.false_eq_true, Bool.and_self, if_false,
      if_true]
    rfl
  · have unlisted : holdReasonTable[b.toNat]? = none := List.getElem?_eq_none large
    rw [exec_releaseHold, releaseHoldRequest, unlisted]
    rfl
  · rw [exec_clearHold, clearHoldRequest, stationOf_val number]
    simp only [entry, orphaned, if_true]
    rw [State.setEntry_none entry]
    rfl
  · rw [exec_clearHold, clearHoldRequest, stationOf_val number]
    simp only [entry, active, reduceCtorEq, if_false]
    rfl
  · rw [exec_clearHold, clearHoldRequest, stationOf_val number]
    simp only [none]
    rfl
  · rw [exec_clearHold, clearHoldRequest, stationOf_eq_none large]
    rfl

end Sys2Proof
end

section
/-! SUPPORT. Hold frames and silence of other stations (R45 to R49), and what a table change and a yield bring along
(R13, R14, R84, R135). -/

namespace Sys2Proof.Machine

/-! ### Entries of other stations -/

/-- An entry put in place holds the rig. -/
theorem State.setEntry_some (st : Station) (e : HoldEntry) (s : State) :
    s.setEntry st (some e) = { s with
      holds := { s.holds with others := put s.holds.others st (some e) }
      causes := if entryFace s.holds.others[st] = entryFace (some e) then s.causes
        else s.causes ||| causeBit .holdChanged
      seq := if s.held then s.seq else s.heldEdge.seq } := by
  have held : ({ s with holds := { s.holds with others := put s.holds.others st (some e) } } : State).held = true :=
    State.held_of_entry (st := st) (e := e) (put_get_same _ _ _)
  rw [State.setEntry, State.withHolds_held _ held]
  by_cases same : entryFace s.holds.others[st] = entryFace (some e)
  · simp [same]
  · simp [same]

/-- An entry removed, present or not. -/
theorem State.setEntry_removed (st : Station) (s : State) :
    s.setEntry st none = { s with
      holds := { s.holds with others := put s.holds.others st none }
      causes := if s.holds.others[st].isSome then s.causes ||| causeBit .holdChanged else s.causes } := by
  cases entry : s.holds.others[st] with
  | some e => rw [State.setEntry_none entry]; rfl
  | none =>
    have same : put s.holds.others st none = s.holds.others := by
      rw [← entry]
      simp [put]
    have quiet : s.held = true ∨ s.held = false := Bool.eq_false_or_eq_true _
    rw [State.setEntry, same, entry]
    exact State.withHolds_quiet (h := s.holds) false quiet

theorem State.deliver_receiving {source : Station} {s : State} (f : State → State) (receiving : s.link.receiving = true)
    (other : s.station ≠ some source) : s.deliver source f = f s.receiverDone := by
  simp only [State.deliver, receiving, other, if_true, if_false]
  rfl

theorem State.deliver_idle {source : Station} {s : State} (f : State → State) (still : s.link.receiving = false) :
    s.deliver source f = s := by
  simp [State.deliver, still]

theorem State.orphan_some {s : State} {st : Station} {e : HoldEntry} (entry : s.holds.others[st] = some e) :
    s.orphan st = { s with
      holds := { s.holds with others := put s.holds.others st (some { e with state := .orphaned }) }
      causes := if e.state = .orphaned then s.causes else s.causes ||| causeBit .holdChanged } := by
  have held : s.held = true := State.held_of_entry entry
  simp only [State.orphan, entry]
  rw [State.setEntry_some, held]
  simp [entryFace, entry]

end Sys2Proof.Machine

namespace Sys2Proof

open Machine

/-- Settles O13: a frame of another station replaces its entry, and its silence marks it. -/
theorem holdFramesChangeTheEntry : Obligations.HoldFramesChangeTheEntry := by
  intro st reason s
  refine ⟨fun receiving other => ⟨?_, ?_⟩, fun still => ⟨?_, ?_⟩, fun e entry silent quiet => ?_,
    fun e entry waits => ?_, fun none => ?_⟩
  · have eq : exec (.holdSetReceived st reason) s = .next (s.deliver st fun u => u.setEntry st (some ⟨reason, .active, 0⟩)) :=
      rfl
    have edge : s.receiverDone.heldEdge.seq = s.heldEdge.seq := State.heldEdge_seq_congr rfl rfl
    rw [eq, State.deliver_receiving _ receiving other, State.setEntry_some, edge]
    rfl
  · have eq : exec (.holdReleaseReceived st) s = .next (s.deliver st fun u => (u.setEntry st none).settle) := rfl
    rw [eq, State.deliver_receiving _ receiving other, State.setEntry_removed]
    rfl
  · exact congrArg Host.Outcome.next (State.deliver_idle _ still)
  · exact congrArg Host.Outcome.next (State.deliver_idle _ still)
  · have eq : exec (.holdSilenceExpiry st) s = execHoldSilenceExpiry st s := rfl
    rw [eq, execHoldSilenceExpiry, entry]
    simp only [Config.lostAge, silent, quiet, Bool.not_false, and_self, if_true]
    rw [State.orphan_some entry]
  · have eq : exec (.holdSilenceExpiry st) s = execHoldSilenceExpiry st s := rfl
    have early : ¬(Config.lostAge ≤ e.silence ∧ (!s.peers[st].presence.freshness.heard) = true) := by
      rintro ⟨due, unheard⟩
      rcases waits with short | heard
      · exact absurd due (Nat.not_le.mpr short)
      · rw [heard] at unheard
        cases unheard
    rw [eq, execHoldSilenceExpiry, entry]
    exact congrArg Host.Outcome.next (if_neg early)
  · have eq : exec (.holdSilenceExpiry st) s = execHoldSilenceExpiry st s := rfl
    rw [eq, execHoldSilenceExpiry, none]

/-- Settles O15: a table that changes the MUD owner, and the yield of each role. -/
theorem tableAndYields : Obligations.TableAndYields := by
  intro peers r s
  refine ⟨fun same => ?_, fun changed => ?_, fun inactive => ?_, fun active its => ?_, fun active its => ?_,
    fun active its => ?_, fun active its out => ?_, fun m active its running marker => ?_⟩
  · exact if_pos same
  · exact if_neg changed
  · simp [State.yieldRole, inactive]
  · subst its
    rw [State.yieldRole, if_pos active]
    rfl
  · subst its
    rw [State.yieldRole, if_pos active]
    rfl
  · subst its
    rw [State.yieldRole, if_pos active]
    rfl
  · subst its
    rw [State.yieldRole, if_pos active]
    rcases out with state | markerless
    · exact if_neg (by simpa [State.running] using state)
    · have same (u : State) (unmarked : u.seq.marker = none) : u.stopWork .handler = u := by
        simp only [State.stopWork, State.enterRecover, unmarked, ite_self]
      exact same _ markerless
  · subst its
    rw [State.yieldRole, if_pos active]
    have recovers (u : State) (state : u.running = true) (marked : u.seq.marker = some m) :
        u.stopWork .handler = State.placeReason .recovery { u with seq := { u.seq with
          state := .recover, kind := m.kind, step := some m.step, slot := some m.slot, fault := none } } := by
      simp only [State.stopWork, State.enterRecover, state, marked, if_true]
    exact recovers _ (by simpa [State.running] using running) marker

end Sys2Proof
end

section
/-! SUPPORT. Received frames, owner arrivals and the ends of slots (R4 to R12, R46, R47, R84, R95, R135). -/

namespace Sys2Proof.Machine

/-! ### Yields, role by role -/

theorem State.yieldRoles_eq (claimed : Role → Bool) (s : State) :
    s.yieldRoles claimed =
      let yielded (r : Role) (s : State) : State := if claimed r then s.yieldRole r else s
      yielded .cab (yielded .head (yielded .handler (yielded .mud s))) :=
  rfl

/-- Yields claimed for one role alone. -/
theorem State.yieldRoles_single (r : Role) (claimed : Role → Bool) (s : State) :
    s.yieldRoles (fun other => other == r && claimed other) = if claimed r then s.yieldRole r else s := by
  cases r <;> simp [State.yieldRoles_eq]

theorem State.stopWork_node (r : Role) (s : State) : (s.stopWork r).node = s.node := by
  unfold State.stopWork
  split
  case h_2 => split <;> simp
  all_goals rfl

/-- A yield leaves the configuration and the node state. -/
theorem State.yieldRole_station (r : Role) (s : State) : (s.yieldRole r).station = s.station := by
  unfold State.yieldRole State.station
  split
  · rw [State.stopWork_node]; rfl
  · rfl

theorem State.yieldRoles_station (claimed : Role → Bool) (s : State) : (s.yieldRoles claimed).station = s.station := by
  have each (u : State) (r : Role) : (if claimed r then u.yieldRole r else u).station = u.station := by
    split
    · exact State.yieldRole_station r u
    · rfl
  exact (each _ _).trans ((each _ _).trans ((each _ _).trans (each s _)))

theorem State.mustYieldTo_iff (s : State) (st : Station) :
    s.mustYieldTo st = true ↔ s.node.state ≠ .config ∧ s.station.any (st < ·) = true := by
  simp [State.mustYieldTo]

theorem State.mustYieldTo_congr {s t : State} (node : t.node = s.node) (st : Station) :
    t.mustYieldTo st = s.mustYieldTo st := by
  simp [State.mustYieldTo, State.station, node]

theorem State.station_congr {s t : State} (node : t.node = s.node) : t.station = s.station := by
  simp [State.station, node]

theorem PeerEntry.storeAnnouncement_presence (e : PeerEntry) (a : Announcement) :
    (e.storeAnnouncement a).presence = e.presence := by
  cases a <;> rfl

theorem PeerEntry.storeAnnouncement_yieldsRole (e : PeerEntry) (a : Announcement) (r : Role) :
    (e.storeAnnouncement a).yieldsRole r = e.yieldsRole r := by
  simp [PeerEntry.yieldsRole, PeerEntry.storeAnnouncement_presence]

theorem exec_presenceReceived (st : Station) (p : Presence) (s : State) :
    exec (.presenceReceived st p) s = .next (s.deliver st (State.presenceArrival st p)) := rfl

theorem exec_announcementReceived (st : Station) (a : Announcement) (s : State) :
    exec (.announcementReceived st a) s = .next (s.deliver st (State.announcementArrival st a)) := rfl

theorem State.yieldTo_peers (st : Station) (claimed : Role → Bool) (s : State) :
    (s.yieldTo st claimed).peers = s.peers := by
  unfold State.yieldTo
  split <;> simp

/-- A PRESENCE stored, with the yields its sender forces and its hold report. -/
theorem State.presenceArrival_cases {st : Station} {s : State} (p : Presence) (other : s.station ≠ some st) :
    s.presenceArrival st p =
      let stored := s.withPeers (put s.peers st (s.peers[st].storePresence p))
      let decided := if s.mustYieldTo st then stored.yieldRoles fun r => p.held.has r && !p.yielded.has r else stored
      (decided.holdReport st (p.holding.map HoldReason.bits)).settle := by
  have must : (s.withPeers (put s.peers st (s.peers[st].storePresence p))).mustYieldTo st = s.mustYieldTo st :=
    State.mustYieldTo_congr (by simp) st
  have station : ((s.mapPeer st (·.storePresence p)).yieldTo st fun r => p.held.has r && !p.yielded.has r).station =
      s.station := by
    have stored : (s.mapPeer st (·.storePresence p)).station = s.station := State.station_congr (by simp)
    unfold State.yieldTo
    split
    · rw [State.yieldRoles_station, stored]
    · exact stored
  rw [State.presenceArrival_eq]
  dsimp only
  rw [if_neg (station ▸ other), State.yieldTo]
  simp only [State.mapPeer, must]

/-- An announcement stored, with the yield its sender forces and its reading. -/
theorem State.announcementArrival_cases (st : Station) (a : Announcement) (s : State) :
    s.announcementArrival st a =
      let stored := s.withPeers (put s.peers st (s.peers[st].storeAnnouncement a))
      let decided := if s.mustYieldTo st = true ∧ s.peers[st].yieldsRole (announcedRole a) = false
        then stored.yieldRole (announcedRole a) else stored
      (if stored.owner (announcedRole a) = some st then decided.readArrival a else decided).settle := by
  rw [State.announcementArrival_eq]
  have stored : s.mapPeer st (·.storeAnnouncement a) = s.withPeers (put s.peers st (s.peers[st].storeAnnouncement a)) := rfl
  rw [stored]
  dsimp only
  have yields : (s.withPeers (put s.peers st (s.peers[st].storeAnnouncement a))).peers[st].yieldsRole (announcedRole a) =
      s.peers[st].yieldsRole (announcedRole a) := by
    rw [State.withPeers_peers, put_get_same, PeerEntry.storeAnnouncement_yieldsRole]
  have must : (s.withPeers (put s.peers st (s.peers[st].storeAnnouncement a))).mustYieldTo st = s.mustYieldTo st :=
    State.mustYieldTo_congr (by simp) st
  generalize s.withPeers (put s.peers st (s.peers[st].storeAnnouncement a)) = u at yields must
  have decided : u.yieldTo st (fun r => r == announcedRole a && !u.peers[st].yieldsRole r) =
      if s.mustYieldTo st = true ∧ s.peers[st].yieldsRole (announcedRole a) = false
        then u.yieldRole (announcedRole a) else u := by
    rw [State.yieldTo, State.yieldRoles_single, must, yields]
    cases s.mustYieldTo st <;> cases s.peers[st].yieldsRole (announcedRole a) <;> rfl
  rw [← decided, State.owner_congr (s := u) (t := u.yieldTo st _) (State.yieldTo_peers _ _ _)]

/-! ### Owner arrivals and their readers (R84, R95, R135) -/

/-- What a MUD owner arrival makes of the locked mark (R84). -/
theorem State.sequencerMudArrival_eq (m : MudAnnounce) (s : State) :
    s.sequencerMudArrival m = { s with seq := { s.seq with
      lockedMark :=
        if s.acts .handler = true ∧ s.seq.state = .active ∧ s.seq.step = some .breakJoint then
          decide (m.circ = CircState.bits .locked)
        else s.seq.lockedMark } } := by
  unfold State.sequencerMudArrival
  by_cases reads : s.acts .handler = true ∧ s.seq.state = .active ∧ s.seq.step = some .breakJoint
  · obtain ⟨acts, active, step⟩ := reads
    simp [acts, active, step, Bool.beq_eq_decide_eq]
  · rw [if_neg (by simpa [and_assoc] using reads), if_neg reads]

/-- What a HANDLER owner arrival makes of the circulation state of an acting block (R95). -/
theorem Circulation.heardHandler_eq (c : Circulation) (stringOpen : Bool) :
    c.heardHandler stringOpen = { c with
      state :=
        if c.state = .stopped ∧ stringOpen = true then .locked
        else if c.state = .locked ∧ stringOpen = false then .stopped else c.state } := by
  obtain ⟨one, two, state⟩ := c
  unfold Circulation.heardHandler
  cases state <;> cases stringOpen <;> rfl

/-- The circulation state after a HANDLER owner arrival (R95). -/
def State.lockAfter (s : State) (stringOpen : Bool) : CircState :=
  if s.acts .mud = true ∧ s.circ.state = .stopped ∧ stringOpen = true then .locked
  else if s.acts .mud = true ∧ s.circ.state = .locked ∧ stringOpen = false then .stopped
  else s.circ.state

/-- The state with the lock as a HANDLER owner arrival leaves it. -/
def State.heardString (stringOpen : Bool) (s : State) : State :=
  { s with circ := { s.circ with state := s.lockAfter stringOpen } }

/-- A HANDLER owner arrival: the lock, then the depth tracker, then the job meter. -/
theorem State.readArrival_handler (h : HandlerAnnounce) (s : State) :
    s.readArrival (.handler h) =
      ((s.heardString h.stringOpen).asHead fun c => (s.heardString h.stringOpen).depthHandlerArrival c h).meterHandler
        h := by
  have locked : (if s.acts .mud then { s with circ := s.circ.heardHandler h.stringOpen } else s) =
      s.heardString h.stringOpen := by
    by_cases acts : s.acts .mud = true
    · simp [acts, State.heardString, State.lockAfter, Circulation.heardHandler_eq]
    · simp [acts, State.heardString, State.lockAfter]
  rw [State.readArrival, locked]

/-- What HEAD's work leaves as it is. -/
theorem State.asHead_same {α : Type} {s : State} {f : HeadConfig → State} (field : State → α)
    (h : ∀ c, field (f c) = field s) : field (s.asHead f) = field s := by
  unfold State.asHead
  (repeat' split)
  · exact h _
  all_goals rfl

theorem State.readArrival_handler_circ (h : HandlerAnnounce) (s : State) :
    (s.readArrival (.handler h)).circ = (s.heardString h.stringOpen).circ := by
  simp only [State.readArrival_handler, State.meterHandler_frame]
  exact State.asHead_same State.circ fun c => by simp

theorem State.readArrival_handler_seq (h : HandlerAnnounce) (s : State) :
    (s.readArrival (.handler h)).seq = s.seq := by
  simp only [State.readArrival_handler, State.meterHandler_frame]
  exact State.asHead_same State.seq fun c => by simp

/-- A MUD owner arrival: the locked mark, then the log, then the job meter. -/
theorem State.readArrival_mud (m : MudAnnounce) (s : State) :
    s.readArrival (.mud m) =
      (if (s.sequencerMudArrival m).acts .head then (s.sequencerMudArrival m).logMudArrival m.condition
        else s.sequencerMudArrival m).meterMud m :=
  rfl

/-- What a MUD owner arrival makes of the log (R135). -/
theorem State.logMudArrival_log (condition : BalanceCondition) (s : State) :
    (s.logMudArrival condition).log = { s.log with
      kept := if condition = .degraded then s.log.kept else some condition
      current := { s.log.current with flags := { s.log.current.flags with
        balanceDegraded := s.log.current.flags.balanceDegraded || decide (condition = .degraded)
        water := s.log.current.flags.water || decide (condition = .gain ∧ s.log.kept ≠ some .gain ∧
          (s.depth.onBottom = true ∨ s.depth.dmax ≤ s.depth.d + s.intervalLength)) } } } := by
  by_cases degraded : condition = .degraded
  · subst degraded
    simp [State.logMudArrival]
  · simp [State.logMudArrival, degraded, State.nearBottom, Bool.beq_eq_decide_eq, Bool.and_assoc, bne]

/-- The MUD arrival as the log keeps it: what the block that acts as HEAD makes of the marked state. -/
theorem State.readArrival_mud_log (m : MudAnnounce) (s : State) :
    (s.readArrival (.mud m)).log =
      if s.acts .head then ((s.sequencerMudArrival m).logMudArrival m.condition).log else s.log := by
  have acts : (s.sequencerMudArrival m).acts .head = s.acts .head := State.acts_congr (by simp) .head
  rw [State.readArrival_mud, acts]
  split <;> simp

theorem State.logMudArrival_eq (condition : BalanceCondition) (s : State) :
    s.logMudArrival condition = { s with log := (s.logMudArrival condition).log } := by
  unfold State.logMudArrival
  dsimp only
  split <;> rfl

theorem State.asHead_inactive {s : State} (f : HeadConfig → State) (still : s.acts .head = false) : s.asHead f = s := by
  simp [State.asHead, still]

theorem State.asHead_acting {s : State} {c : HeadConfig} (f : HeadConfig → State) (acts : s.acts .head = true)
    (configured : s.node.head = some c) : s.asHead f = f c := by
  simp [State.asHead, acts, configured]

/-- A HANDLER arrival at a node that does not act as HEAD. -/
theorem State.readArrival_handler_inactive (h : HandlerAnnounce) {s : State} (still : s.acts .head = false) :
    s.readArrival (.handler h) = (s.heardString h.stringOpen).meterHandler h := by
  have still' : (s.heardString h.stringOpen).acts .head = false := still
  rw [State.readArrival_handler, State.asHead_inactive _ still']

/-- A HANDLER arrival at a node that acts as HEAD. -/
theorem State.readArrival_handler_acting (h : HandlerAnnounce) {s : State} {c : HeadConfig} (acts : s.acts .head = true)
    (configured : s.node.head = some c) :
    s.readArrival (.handler h) = ((s.heardString h.stringOpen).depthHandlerArrival c h).meterHandler h := by
  have acts' : (s.heardString h.stringOpen).acts .head = true := acts
  rw [State.readArrival_handler, State.asHead_acting _ acts' configured]

/-! ### Slots that end (R5, R6, R47) -/

theorem exec_slotLost (st : Station) (slot : SlotName) (s : State) :
    exec (.slotLost st slot) s = execSlotLost st slot s := rfl

/-- The node's own slot lost: the table alone changes. -/
theorem execSlotLost_own {st : Station} {slot : SlotName} {s : State} (stale : s.peers[st].freshness slot = .stale)
    (due : 1000 ≤ s.peers[st].age slot) (own : s.station = some st) :
    exec (.slotLost st slot) s = .next (s.withPeers (put s.peers st (s.peers[st].marked slot .lost 1000))).settle := by
  rw [exec_slotLost, execSlotLost]
  dsimp only
  rw [if_pos ⟨stale, due⟩, if_pos own]
  rfl

/-- Another station's slot lost: PEER_LOST for a presence or an owner, and a presence takes the hold entry along. -/
theorem execSlotLost_other {st : Station} {slot : SlotName} {s : State} (stale : s.peers[st].freshness slot = .stale)
    (due : 1000 ≤ s.peers[st].age slot) (other : s.station ≠ some st) :
    exec (.slotLost st slot) s =
      let alarmed := (s.withPeers (put s.peers st (s.peers[st].marked slot .lost 1000))).raiseIf (s.ownerSlot st slot)
        .peerLost
      .next (if slot = .presence then alarmed.orphan st else alarmed).settle := by
  rw [exec_slotLost, execSlotLost]
  dsimp only
  rw [if_pos ⟨stale, due⟩, if_neg other]
  rfl

theorem PeerEntry.marked_age (e : PeerEntry) (n m : SlotName) (f : Freshness) (age : Nat) :
    (e.marked n f age).age m = if m = n then age else e.age m := by
  rcases n with _ | role <;> rcases m with _ | other
  · rfl
  · cases other <;> rfl
  · cases role <;> rfl
  · cases role <;> cases other <;> rfl

theorem State.orphan_none {s : State} {st : Station} (none : s.holds.others[st] = none) : s.orphan st = s := by
  simp only [State.orphan, none]

theorem State.orphan_entry {s : State} {st : Station} {e : HoldEntry} (entry : s.holds.others[st] = some e) :
    s.orphan st = s.setEntry st (some { e with state := .orphaned }) := by
  simp only [State.orphan, entry]

end Sys2Proof.Machine

namespace Sys2Proof

open Machine

/-- Settles O16: the arrivals in parts, each condition read off the state before the frame. -/
theorem receivedFramesAreStored : Obligations.ReceivedFramesAreStored := by
  intro st p a s
  refine ⟨fun receiving other => ⟨?_, ?_⟩, fun still => ⟨?_, ?_⟩, fun _ => rfl, fun _ => rfl, fun _ => rfl,
    fun _ => rfl⟩
  · have other' : s.receiverDone.station ≠ some st := other
    have must : s.receiverDone.mustYieldTo st = true ↔ s.node.state ≠ .config ∧ s.station.any (st < ·) = true :=
      s.mustYieldTo_iff st
    rw [exec_presenceReceived, State.deliver_receiving _ receiving other, State.presenceArrival_cases p other']
    simp only [must, State.yieldRoles_eq, Bool.and_eq_true, Bool.not_eq_true', State.holdReport, Option.map_map]
    rfl
  · rw [exec_announcementReceived, State.deliver_receiving _ receiving other, State.announcementArrival_cases]
    have must : s.receiverDone.mustYieldTo st = true ↔ s.node.state ≠ .config ∧ s.station.any (st < ·) = true :=
      s.mustYieldTo_iff st
    simp only [must]
    rfl
  · exact congrArg Host.Outcome.next (State.deliver_idle _ still)
  · exact congrArg Host.Outcome.next (State.deliver_idle _ still)

/-- Settles O17: the readers of each arrival in turn. -/
theorem ownerArrivalsReachTheirReaders : Obligations.OwnerArrivalsReachTheirReaders := by
  intro m h a s
  dsimp only
  refine ⟨rfl, ?_, ?_, fun still => ?_, fun acts => ?_, ?_, fun still => ?_, fun c acts configured => ?_, ?_⟩
  · exact State.readArrival_handler_circ h s
  · rw [State.readArrival_mud]
    split <;> simp [State.sequencerMudArrival_eq]
  · simp [State.readArrival_mud_log, still]
  · rw [State.readArrival_mud_log, if_pos acts, State.logMudArrival_log, State.sequencerMudArrival_eq]
    rfl
  · have acts : (s.sequencerMudArrival m).acts .head = s.acts .head := State.acts_congr (by simp) .head
    rw [State.readArrival_mud_log, State.readArrival_mud, acts]
    split
    · rw [State.logMudArrival_eq, State.sequencerMudArrival_eq]
    · rw [State.sequencerMudArrival_eq]
  · exact State.readArrival_handler_inactive h still
  · exact State.readArrival_handler_acting h acts configured
  · refine ⟨?_, ?_, State.readArrival_handler_seq h s⟩
    · rw [State.readArrival_mud]
      split <;> simp
    · rw [State.readArrival_mud]
      split <;> simp

/-- Settles O18: a FRESH slot of 1,500 ms and a STALE one of 10,000 ms are marked; the rest follows from the slot. -/
theorem slotsGoStaleAndLost : Obligations.SlotsGoStaleAndLost := by
  intro st slot s
  refine ⟨fun fresh due => ?_, fun waits => ?_, fun stale due => ⟨fun own => ?_, fun other announce => ?_,
    fun other presence none => ?_, fun h other presence entry => ?_⟩, fun waits => ?_, fun f age => ⟨?_, ?_, ?_⟩⟩
  · have owner : ownerIn (put s.peers st (s.peers[st].marked slot .stale (s.peers[st].age slot))) .mud = s.owner .mud :=
      ownerIn_put _ _ _ _ (PeerEntry.claims_marked_stale _ slot _ .mud fresh)
    exact congrArg Host.Outcome.next ((if_pos ⟨fresh, due⟩).trans (if_pos owner))
  · rw [exec_slotStale, execSlotStale]
    exact congrArg Host.Outcome.next (if_neg fun ⟨fresh, due⟩ => waits.elim (absurd fresh) (Nat.not_lt.mpr due))
  · exact execSlotLost_own stale due own
  · rw [execSlotLost_other stale due other]
    rcases slot with _ | r
    · exact absurd rfl announce
    · rfl
  · subst presence
    rw [execSlotLost_other stale due other]
    dsimp only
    rw [if_pos rfl, State.orphan_none (by simpa using none)]
    rfl
  · subst presence
    rw [execSlotLost_other stale due other]
    dsimp only
    rw [if_pos rfl, State.orphan_entry (e := h) (by simpa using entry)]
    rfl
  · exact congrArg Host.Outcome.next (if_neg fun ⟨stale, due⟩ => waits.elim (absurd stale) (Nat.not_lt.mpr due))
  · rw [PeerEntry.marked_freshness, if_pos rfl]
  · rw [PeerEntry.marked_age, if_pos rfl]
  · intro another distinct
    rw [PeerEntry.marked_freshness, PeerEntry.marked_age, if_neg distinct, if_neg distinct]
    exact ⟨rfl, rfl⟩

end Sys2Proof
end

section
/-! SUPPORT. The rig link's requests and line events (R23 to R38). -/

namespace Sys2Proof.Machine

/-! ### Directive codes (R39) -/

theorem Byte.lt_six_cases (code : Byte) :
    code = 0#8 ∨ code = 1#8 ∨ code = 2#8 ∨ code = 3#8 ∨ code = 4#8 ∨ code = 5#8 ∨ 6 ≤ code.toNat := by
  rcases Nat.lt_or_ge code.toNat 6 with small | large
  · have value : code.toNat = 0 ∨ code.toNat = 1 ∨ code.toNat = 2 ∨ code.toNat = 3 ∨ code.toNat = 4 ∨ code.toNat = 5 := by
      omega
    rcases value with h | h | h | h | h | h <;> simp [← BitVec.toNat_inj, h]
  · simp [large]

/-- The directive code suits the role that takes it. -/
def Directive.suits (r : Role) (code : Byte) : Prop :=
  (r = .mud ∧ (code = 3#8 ∨ code = 4#8)) ∨ (r = .handler ∧ code = 5#8) ∨
    (r = .head ∧ (code = 0#8 ∨ code = 1#8 ∨ code = 2#8))

/-- The length that a suitable directive's argument has. -/
def Directive.size (code : Byte) : Nat := if code = 2#8 ∨ code = 5#8 then 0 else 1

theorem directiveFault_unsuited {r : Role} {code : Byte} (arg : List Byte) (unsuited : ¬Directive.suits r code) :
    directiveFault r code arg = .error 2 := by
  rcases Byte.lt_six_cases code with rfl | rfl | rfl | rfl | rfl | rfl | large
  case inr.inr.inr.inr.inr.inr =>
    have unlisted : directiveTable[code.toNat]? = none := List.getElem?_eq_none large
    rw [directiveFault, unlisted]
  all_goals exact if_pos fun target => unsuited (by subst target; simp [Directive.suits, directiveTarget])

/-- A suitable code names a directive of the role, whose argument length is checked. -/
theorem directiveFault_suited {r : Role} {code : Byte} (arg : List Byte) (suited : Directive.suits r code) :
    ∃ c, directiveTable[code.toNat]? = some c ∧ directiveTarget c = r ∧
      directiveFault r code arg = if arg.length ≠ Directive.size code then .error 3 else .ok c := by
  rcases suited with ⟨rfl, rfl | rfl⟩ | ⟨rfl, rfl⟩ | ⟨rfl, rfl | rfl | rfl⟩ <;> exact ⟨_, rfl, rfl, rfl⟩

theorem Role.lt_four_cases {role : Byte} (small : role.toNat < 4) :
    role = 0#8 ∧ roleTable[role.toNat]? = some .mud ∨ role = 1#8 ∧ roleTable[role.toNat]? = some .handler ∨
      role = 2#8 ∧ roleTable[role.toNat]? = some .head ∨ role = 3#8 ∧ roleTable[role.toNat]? = some .cab := by
  have value : role.toNat = 0 ∨ role.toNat = 1 ∨ role.toNat = 2 ∨ role.toNat = 3 := by omega
  rcases value with h | h | h | h <;> simp [← BitVec.toNat_inj, h] <;> rfl

/-- A suitable code in the role byte's terms. -/
theorem Directive.suits_of_byte {role code : Byte} {r : Role} (its : roleTable[role.toNat]? = some r) :
    Directive.suits r code ↔ (role = 0#8 ∧ (code = 3#8 ∨ code = 4#8)) ∨ (role = 1#8 ∧ code = 5#8) ∨
      (role = 2#8 ∧ (code = 0#8 ∨ code = 1#8 ∨ code = 2#8)) := by
  have small : role.toNat < 4 := (List.getElem?_eq_some_iff.mp its).1
  rcases Role.lt_four_cases small with ⟨rfl, named⟩ | ⟨rfl, named⟩ | ⟨rfl, named⟩ | ⟨rfl, named⟩ <;> rw [named] at its <;>
    cases its <;> simp [Directive.suits]

theorem Directive.role_of_suits {role code : Byte} (suited : (role = 0#8 ∧ (code = 3#8 ∨ code = 4#8)) ∨
      (role = 1#8 ∧ code = 5#8) ∨ (role = 2#8 ∧ (code = 0#8 ∨ code = 1#8 ∨ code = 2#8))) :
    ∃ r, roleTable[role.toNat]? = some r := by
  rcases suited with ⟨rfl, _⟩ | ⟨rfl, _⟩ | ⟨rfl, _⟩ <;> exact ⟨_, rfl⟩

/-- A transmission dropped: a hold frame that waits takes the place of the one that stays pending (R29, R37). -/
theorem Link.released_eq (k : Link) :
    k.released = { k with sending := none, holdFrame := k.holdWaiting.or k.holdFrame, holdWaiting := none } := by
  unfold Link.released
  cases waiting : k.holdWaiting <;> simp [waiting]

theorem exec_sendDirective (role code : Byte) (arg : List Byte) (s : State) :
    exec (.sendDirective role code arg) s =
      answered (.sendDirective role code arg) (sendDirectiveRequest role code arg s) := rfl

theorem exec_unmute (s : State) : exec .unmute s = answered .unmute (unmuteRequest s) := rfl

theorem State.running_iff (s : State) : s.running = true ↔ s.node.state = .running := by
  simp [State.running]

end Sys2Proof.Machine

namespace Sys2Proof

open Machine

/-- Settles O19: role, code, argument and room are checked in this order. -/
theorem linkRequestsAreTaken : Obligations.LinkRequestsAreTaken := by
  intro role code arg s
  refine ⟨fun still => ?_, fun running => ?_, fun unmuted => ?_, fun muted => ?_⟩
  · rw [exec_sendDirective, sendDirectiveRequest, if_pos (by simp [State.running, still])]
    rfl
  · have now : ¬(!s.running) = true := by simp [State.running, running]
    rw [exec_sendDirective, sendDirectiveRequest, if_neg now]
    refine ⟨fun large => ?_, fun small unsuited => ?_, fun suited wrong => ?_, fun suited right full => ?_,
      fun suited right room => ?_⟩
    · have unlisted : roleTable[role.toNat]? = none := List.getElem?_eq_none large
      rw [unlisted]
      rfl
    · obtain ⟨r, its⟩ : ∃ r, roleTable[role.toNat]? = some r := ⟨_, List.getElem?_eq_getElem small⟩
      rw [its]
      dsimp only
      rw [directiveFault_unsuited arg (mt (Directive.suits_of_byte its).mp unsuited)]
      rfl
    all_goals
      obtain ⟨r, its⟩ := Directive.role_of_suits suited
      obtain ⟨c, _, _, fault⟩ := directiveFault_suited arg ((Directive.suits_of_byte its).mpr suited)
      rw [its]
      dsimp only
    · rw [fault, if_pos (show arg.length ≠ Directive.size code from wrong)]
      rfl
    · rw [fault, if_neg (not_not_intro (show arg.length = Directive.size code from right))]
      dsimp only
      rw [if_pos (show Config.queueCapacity ≤ s.link.queue.length from full)]
      rfl
    · rw [fault, if_neg (not_not_intro (show arg.length = Directive.size code from right))]
      dsimp only
      rw [if_neg (show ¬Config.queueCapacity ≤ s.link.queue.length from Nat.not_le.mpr room)]
      simp [answered, State.answer, State.replied, okWith]
  · rw [exec_unmute, unmuteRequest, if_pos unmuted]
    rfl
  · rw [exec_unmute, unmuteRequest, if_neg muted]
    rfl

/-- Settles O20: each event by the line state it finds. -/
theorem lineStateAndPeriodChange : Obligations.LineStateAndPeriodChange := by
  intro s
  refine ⟨fun line => ?_, fun line => ?_, fun line => ?_, fun line => ?_, fun line => ?_, fun line => ?_, fun state => ?_,
    fun state => ?_, fun state => ?_⟩
  · have eq : exec .idleIntervalComplete s = execIdleIntervalComplete s := rfl
    rcases line with h | h | h <;> rw [eq, execIdleIntervalComplete, h]
  · have eq : exec .idleIntervalComplete s = execIdleIntervalComplete s := rfl
    rcases line with h | h <;> rw [eq, execIdleIntervalComplete, h]
  · exact congrArg Host.Outcome.next (if_pos line)
  · exact congrArg Host.Outcome.next (if_neg line)
  · refine congrArg Host.Outcome.next ((if_neg line).trans ?_)
    rw [Link.released_eq]
    rfl
  · exact congrArg Host.Outcome.next (if_pos line)
  · have eq : exec .sendPeriodExpiry s = execSendPeriodExpiry s := rfl
    rw [eq, execSendPeriodExpiry, state]
  · have eq : exec .sendPeriodExpiry s = execSendPeriodExpiry s := rfl
    rw [eq, execSendPeriodExpiry, state]
    rfl
  · have eq : exec .sendPeriodExpiry s = execSendPeriodExpiry s := rfl
    rw [eq, execSendPeriodExpiry, state]
    rfl

/-- Settles O24: an error is counted while a frame is received, and a frame under the own number is a clash. -/
theorem receiveErrorsAndClashes : Obligations.ReceiveErrorsAndClashes := by
  intro error st p a reason d s
  refine ⟨fun receiving => ?_, fun still => ⟨?_, ?_⟩, fun receiving known => ?_, fun receiving own => ?_⟩
  · exact congrArg Host.Outcome.next (if_pos receiving)
  · exact congrArg Host.Outcome.next (if_neg (by simp [still]))
  · exact congrArg Host.Outcome.next (if_neg (by simp [still]))
  · exact congrArg Host.Outcome.next (if_pos ⟨receiving, known⟩)
  · have clash (f : State → State) : s.deliver st f = s.frameEnded.clash := by
      simp [State.deliver, receiving, own]
    have next (f : State → State) := congrArg (Host.Outcome.next (φ := Fault) (ρ := Refusal)) (clash f)
    exact ⟨next _, next _, next _, next _, next _⟩

end Sys2Proof
end

section
/-! SUPPORT. Frames begun and ended, and directives routed (R28 to R40). -/

namespace Sys2Proof.Machine

/-! ### FRAME_BEGIN (R28, R36) -/

/-- A frame begun. -/
def State.begun (s : State) (f : Frame) : State :=
  { s with link := { s.link with line := .owner, receiving := false, sending := some f } }

theorem exec_frameBegin_blocked {s : State} (blocked : ¬(s.link.line = .idle ∧ s.link.mute = none ∧ s.station ≠ none)) :
    exec .frameBegin s = .next s :=
  congrArg Host.Outcome.next (if_neg blocked)

theorem exec_frameBegin_chosen {s : State} {f : Frame}
    (idle : s.link.line = .idle ∧ s.link.mute = none ∧ s.station ≠ none) (chosen : s.chosenFrame = some f) :
    exec .frameBegin s = .next (s.begun f) := by
  have eq : exec .frameBegin s = execFrameBegin s := rfl
  rw [eq, execFrameBegin, if_pos idle, chosen]
  rfl

theorem exec_frameBegin_none {s : State} (none : s.chosenFrame = none) : exec .frameBegin s = .next s := by
  have eq : exec .frameBegin s = execFrameBegin s := rfl
  rw [eq, execFrameBegin, none]
  exact congrArg Host.Outcome.next (ite_self s)

theorem State.chosenFrame_hold {s : State} {h : HoldFrame} (running : s.node.state = .running)
    (pending : s.link.holdFrame = some h) : s.chosenFrame = some (s.holdContent h) := by
  simp [State.chosenFrame, running, pending]

theorem State.chosenFrame_directive {s : State} {d : Directive} {rest : List Directive} (running : s.node.state = .running)
    (free : s.link.holdFrame = none) (queue : s.link.queue = d :: rest) : s.chosenFrame = some (.directive d) := by
  simp [State.chosenFrame, running, free, queue]

theorem State.chosenFrame_due {s : State} (running : s.node.state = .running) (free : s.link.holdFrame = none)
    (queue : s.link.queue = []) : s.chosenFrame = s.dueFrame := by
  simp [State.chosenFrame, running, free, queue]

/-- The due announcements in role order, then PRESENCE. -/
theorem State.dueFrame_eq (s : State) :
    s.dueFrame =
      if s.link.due.mud = true then some (.announce (.mud s.mudRecord))
      else if s.link.due.handler = true then some (.announce (.handler s.handlerRecord))
      else if s.link.due.head = true then some (.announce (.head s.headRecord))
      else if s.link.due.cab = true then some (.announce (.cab s.cabRecord))
      else if s.link.due.presence = true then some (.presence s.presenceRecord) else none := by
  unfold State.dueFrame
  generalize s.link.due = due
  obtain ⟨mud, handler, head, cab, presence⟩ := due
  cases mud <;> cases handler <;> cases head <;> cases cab <;> rfl

theorem ReasonSet.first_eq (m : ReasonSet) :
    m.first = if m.driller = true then some .driller
      else if m.flowGain = true then some .flowGain
      else if m.handlingFault = true then some .handlingFault
      else if m.recovery = true then some .recovery else none := by
  obtain ⟨driller, flowGain, handlingFault, recovery⟩ := m
  cases driller <;> cases flowGain <;> cases handlingFault <;> cases recovery <;> rfl

theorem Sequencer.stringOpen_iff (q : Sequencer) :
    q.stringOpen = true ↔ q.state ≠ .idle ∧ (q.step = some .breakJoint ∨ q.step = some .load ∨ q.step = some .joint ∨
      q.step = some .lift ∨ q.step = some .drive) := by
  unfold Sequencer.stringOpen
  split
  case h_1 idle => simp [idle]
  case h_2 st step going =>
    have started : q.state ≠ .idle := going
    cases st <;> simp [step, Step.isOpen, started]
  case h_3 none going => simp [none]

/-- B rounded to litres, half away from zero (R118). -/
theorem litres_nonneg {b : Int} (sign : 0 ≤ b) : 10000 * litres b ≤ b + 5000 ∧ b + 5000 < 10000 * (litres b + 1) := by
  simp only [litres, if_neg (Int.not_lt.mpr sign)]
  omega

theorem litres_neg {b : Int} (sign : b < 0) : litres b = -litres (-b) := by
  have positive : ¬-b < 0 := by omega
  simp only [litres, if_pos sign, if_neg positive, Int.natAbs_neg]

/-- A table of four, entry by entry. -/
theorem vector_map_four {α β : Type} (f : α → β) (v : Vector α 4) : v.map f = #v[f v[0], f v[1], f v[2], f v[3]] := by
  ext i inside
  simp only [Vector.getElem_map]
  match i, inside with
  | 0, _ | 1, _ | 2, _ | 3, _ => rfl

/-! ### The ends of a transmission (R29 to R31) -/

/-- A frame of the node's own comes back as an arrival, with no yield to itself. -/
theorem State.yieldTo_own {s : State} {own : Station} (station : s.station = some own) (claimed : Role → Bool) :
    s.yieldTo own claimed = s := by
  have still : s.mustYieldTo own = false := by simp [State.mustYieldTo, station]
  simp [State.yieldTo, still]

theorem State.announcementArrival_own {s : State} {own : Station} (a : Announcement) (station : s.station = some own) :
    s.announcementArrival own a =
      let stored := s.withPeers (put s.peers own (s.peers[own].storeAnnouncement a))
      (if stored.owner (announcedRole a) = some own then stored.readArrival a else stored).settle := by
  have stored : (s.mapPeer own (·.storeAnnouncement a)).station = some own :=
    (State.station_congr (by simp)).trans station
  rw [State.announcementArrival_eq]
  dsimp only
  rw [State.yieldTo_own stored]
  rfl

theorem State.presenceArrival_own {s : State} {own : Station} (p : Presence) (station : s.station = some own) :
    s.presenceArrival own p = (s.withPeers (put s.peers own (s.peers[own].storePresence p))).settle := by
  have stored : (s.mapPeer own (·.storePresence p)).station = some own :=
    (State.station_congr (by simp)).trans station
  rw [State.presenceArrival_eq]
  dsimp only
  rw [State.yieldTo_own stored, if_pos stored]
  rfl

theorem exec_frameComplete {s : State} {f : Frame} {own : Station} (line : s.link.line = .owner)
    (sending : s.link.sending = some f) (station : s.station = some own) :
    exec .frameComplete s =
      .next (State.completedFrame own f { s with link := { s.link.disposed f with
        line := .busy, receiving := false, faultCount := 0 } }) := by
  have eq : exec .frameComplete s = execFrameComplete s := rfl
  rw [eq, execFrameComplete, line, sending, station]

theorem exec_bitFault {s : State} {f : Frame} (line : s.link.line = .owner) (sending : s.link.sending = some f) :
    exec .bitFault s =
      let k := { (s.link.disposed f).faulted with line := .busy, receiving := false }
      .next (({ s with link := k } : State).raiseIf (k.faultCount == Config.faultLimit) .linkMuted) := by
  have eq : exec .bitFault s = execBitFault s := rfl
  rw [eq, execBitFault, line, sending]

theorem Link.disposed_mute (k : Link) (f : Frame) : (k.disposed f).mute = k.mute := by
  cases f <;> rfl

end Sys2Proof.Machine

namespace Sys2Proof

open Machine

/-- Settles O21: the choice in R36's order, and the records field by field. -/
theorem frameBeginChoosesInOrder : Obligations.FrameBeginChoosesInOrder := by
  intro s
  refine ⟨exec_frameBegin_blocked, fun idle state => ?_, fun idle state => ?_, fun idle running => ⟨?_, ?_, ?_⟩, ?_, ?_, ?_,
    ?_, ?_, ?_, ?_, ?_, rfl, ?_, s.holds.reasons.first_eq, s.seq.stringOpen_iff, fun b => ⟨litres_nonneg, litres_neg⟩⟩
  · exact exec_frameBegin_none (by simp [State.chosenFrame, state])
  · split
    case isTrue due => exact exec_frameBegin_chosen idle (by simp [State.chosenFrame, state, due])
    case isFalse still => exact exec_frameBegin_none (by simp [State.chosenFrame, state, still])
  · intro r pending first
    refine exec_frameBegin_chosen idle ((State.chosenFrame_hold running pending).trans ?_)
    simp [State.holdContent, first]
  · intro pending
    exact exec_frameBegin_chosen idle (State.chosenFrame_hold running pending)
  · intro d rest free queue
    exact exec_frameBegin_chosen idle (State.chosenFrame_directive running free queue)
  · intro ⟨idle, running, free, queue⟩ mud
    refine exec_frameBegin_chosen idle ((State.chosenFrame_due running free queue).trans ?_)
    simp [State.dueFrame_eq, mud]
  · intro ⟨idle, running, free, queue⟩ mud handler
    refine exec_frameBegin_chosen idle ((State.chosenFrame_due running free queue).trans ?_)
    simp [State.dueFrame_eq, mud, handler]
  · intro ⟨idle, running, free, queue⟩ mud handler head
    refine exec_frameBegin_chosen idle ((State.chosenFrame_due running free queue).trans ?_)
    simp [State.dueFrame_eq, mud, handler, head]
  · intro ⟨idle, running, free, queue⟩ mud handler head cab
    refine exec_frameBegin_chosen idle ((State.chosenFrame_due running free queue).trans ?_)
    simp [State.dueFrame_eq, mud, handler, head, cab]
  · intro ⟨idle, running, free, queue⟩ mud handler head cab
    split
    case isTrue presence =>
      refine exec_frameBegin_chosen idle ((State.chosenFrame_due running free queue).trans ?_)
      simp [State.dueFrame_eq, mud, handler, head, cab, presence]
    case isFalse presence =>
      refine exec_frameBegin_none ((State.chosenFrame_due running free queue).trans ?_)
      simp [State.dueFrame_eq, mud, handler, head, cab, presence]
  · rw [← vector_map_four]
    rfl
  · rw [State.handlerRecord, Inventory.topRod]
    cases s.inventory.string.getLast? <;> rfl
  · rw [← vector_map_four]
    rfl
  · rfl

/-- Settles O22: outside OWNER nothing ends; otherwise the frame in transmission decides. -/
theorem transmissionsEnd : Obligations.TransmissionsEnd := by
  intro own f s
  refine ⟨fun other => ⟨?_, ?_, ?_⟩, fun owner => ?_, fun owner sending => ?_,
    fun owner sending station => ⟨fun hold => ?_, fun d its => ?_, fun p its => ?_, fun a its => ?_⟩, fun hold => ?_,
    fun d its => ?_, fun a its => ?_, fun p its => ?_⟩
  · exact congrArg Host.Outcome.next (if_neg other)
  · have eq : exec .bitFault s = execBitFault s := rfl
    rw [eq, execBitFault]
    split
    case h_1 line _ => exact absurd line other
    case h_2 => rfl
  · have eq : exec .frameComplete s = execFrameComplete s := rfl
    rw [eq, execFrameComplete]
    split
    case h_1 line _ _ => exact absurd line other
    case h_2 => rfl
  · refine congrArg Host.Outcome.next ((if_pos owner).trans ?_)
    rw [Link.released_eq]
  · obtain ⟨count, _, _⟩ := s.link.disposed_counts f
    rw [exec_bitFault owner sending]
    by_cases limit : min 8 (s.link.faultCount + 1) = 8
    · simp [Link.faulted, count, Config.faultLimit, State.raiseIf, limit]
      rfl
    · simp [Link.faulted, count, Config.faultLimit, State.raiseIf, limit, Link.disposed_mute]
  · rw [exec_frameComplete owner sending station]
    rcases hold with ⟨r, rfl⟩ | rfl <;> rfl
  · subst its
    rw [exec_frameComplete owner sending station]
    rfl
  · subst its
    rw [exec_frameComplete owner sending station]
    exact congrArg Host.Outcome.next (State.presenceArrival_own (s := { s with link := _ }) p station)
  · subst its
    rw [exec_frameComplete owner sending station]
    exact congrArg Host.Outcome.next (State.announcementArrival_own (s := { s with link := _ }) a station)
  · rcases hold with ⟨r, rfl⟩ | rfl <;> rfl
  · subst its; rfl
  · subst its; rfl
  · subst its; rfl

end Sys2Proof
end

section
/-! SUPPORT. Directives routed to the job blocks of this node (R9, R39, R40). -/

namespace Sys2Proof.Machine

/-- A directive taken, with the reply of its role's block (R40). -/
def State.directiveTaken (s : State) (r : Role) (source : Station) (d : Directive) (reply : Reply) : State :=
  { s with
    directives := s.directives.set r ⟨source, d.code.setWidth 4, BitVec.ofNat 8 (statusCode reply.status),
      if reply.status = .badValue then reply.body.headD 0#8 else 0#8⟩
    causes := if reply.status = .ok then s.causes else s.causes ||| causeBit .directiveRefused }

theorem State.takeDirective_eq (r : Role) (source : Station) (d : Directive) (s : State) :
    s.takeDirective r source d = (s.carryOut r d).2.directiveTaken r source d (s.carryOut r d).1 := by
  unfold State.takeDirective State.directiveTaken
  by_cases ok : (s.carryOut r d).1.status = .ok
  · simp [ok, directiveResult]
  · simp [ok, directiveResult, State.raiseIf, bne, State.raise]

theorem State.routeDirective_untaken {s : State} {source : Station} {d : Directive}
    (untaken : ∀ r, roleTable[d.role.toNat]? = some r → ¬(r ≠ .cab ∧ s.station ≠ none ∧ s.owner r = s.station)) :
    s.routeDirective source d = s := by
  unfold State.routeDirective
  split
  case h_1 => rfl
  case h_2 r named => exact if_neg (untaken r named)

theorem State.routeDirective_taken {s : State} {source : Station} {d : Directive} {r : Role}
    (named : roleTable[d.role.toNat]? = some r) (taker : r ≠ .cab) (known : s.station ≠ none) (owns : s.owner r = s.station) :
    s.routeDirective source d = (s.carryOut r d).2.directiveTaken r source d (s.carryOut r d).1 := by
  rw [State.routeDirective, named, ← State.takeDirective_eq]
  exact if_pos ⟨taker, known, owns⟩

theorem State.carryOut_eq (r : Role) (d : Directive) (s : State) :
    s.carryOut r d = s.runningRequest r fun s =>
      match directiveFault r d.code d.arg with
      | .error n => (badValue n, s)
      | .ok c => directiveRequest c (d.arg.headD 0#8) s := rfl

theorem State.runningRequest_acting {s : State} {r : Role} (f : State → Answered) (acts : s.acts r = true) :
    s.runningRequest r f = f s := by
  simp only [State.acts, State.active, Bool.and_eq_true, Bool.not_eq_true'] at acts
  obtain ⟨running, held, kept⟩ := acts
  exact State.runningRequest_acts s r f held kept running

theorem State.carryOut_fault {s : State} {r : Role} {d : Directive} {n : Nat} (acts : s.acts r = true)
    (fault : directiveFault r d.code d.arg = .error n) : s.carryOut r d = (badValue n, s) := by
  rw [State.carryOut, State.runningRequest_acting _ acts, fault]

theorem State.carryOut_ok {s : State} {r : Role} {d : Directive} {c : DirectiveCode} (acts : s.acts r = true)
    (fault : directiveFault r d.code d.arg = .ok c) :
    s.carryOut r d = directiveRequest c (d.arg.headD 0#8) s := by
  rw [State.carryOut, State.runningRequest_acting _ acts, fault]

/-- A directive carried out is the request it stands for, but for the answer, which goes into the result. -/
theorem exec_of_directive {s : State} {r : Role} {d : Directive} {c : DirectiveCode} {i : Instr} (acts : s.acts r = true)
    (fault : directiveFault r d.code d.arg = .ok c)
    (request : exec i s = answered i (s.runningRequest r (directiveRequest c (d.arg.headD 0#8)))) :
    exec i s = .next ((s.carryOut r d).2.replied i (s.carryOut r d).1) ∧ (s.carryOut r d).2.port = s.port := by
  rw [State.carryOut_ok acts fault]
  refine ⟨?_, directiveRequest_touches c (d.arg.headD 0#8) s .port (by simp)⟩
  rw [request, State.runningRequest_acting _ acts]
  rfl

end Sys2Proof.Machine

namespace Sys2Proof

open Machine

/-- Settles O23: a directive for a role this node owns is checked and carried out as the request it stands for. -/
theorem directivesAreRouted : Obligations.DirectivesAreRouted := by
  intro st d s
  refine ⟨fun receiving other => ?_, fun still => ?_, fun large => ?_, fun r code taker => ?_⟩
  · exact congrArg Host.Outcome.next (State.deliver_receiving _ receiving other)
  · exact congrArg Host.Outcome.next (State.deliver_idle _ still)
  · refine State.routeDirective_untaken fun r named ⟨taker, _⟩ => taker ?_
    have small : d.role.toNat < 4 := (List.getElem?_eq_some_iff.mp named).1
    have cab : d.role.toNat = 3 := by omega
    rw [cab] at named
    exact (Option.some.inj named).symm
  have named : roleTable[d.role.toNat]? = some r := code ▸ roleTable_code r
  have suits := Directive.suits_of_byte (code := d.code) named
  refine ⟨fun foreign => ?_, fun ⟨known, owns⟩ => ?_⟩
  · refine State.routeDirective_untaken fun r' named' ⟨_, owns⟩ => foreign ?_
    rw [named] at named'
    cases named'
    exact owns
  have taken := State.routeDirective_taken (source := st) named taker known owns
  refine ⟨fun missing => ?_, fun held yielded => ?_, fun active state => ?_, fun acts unsuited => ?_,
    fun acts suited wrong => ?_, fun acts suited right => ?_⟩
  · rw [taken, State.carryOut, State.runningRequest, State.roleRequest_notRole _ missing]
    rfl
  · rw [taken, State.carryOut, State.runningRequest, State.roleRequest_yielded _ held yielded]
    rfl
  · rw [taken, State.carryOut, State.runningRequest_badState _ active state]
    rfl
  · rw [taken, State.carryOut_fault acts (directiveFault_unsuited d.arg (mt suits.mp unsuited))]
    rfl
  · obtain ⟨c, _, _, fault⟩ := directiveFault_suited d.arg (suits.mpr suited)
    rw [if_pos (show d.arg.length ≠ Directive.size d.code from wrong)] at fault
    rw [taken, State.carryOut_fault acts fault]
    rfl
  · have fits : d.arg.length = Directive.size d.code := right
    have faultless {c : DirectiveCode} {n : Byte} (its : d.code = n) (listed : directiveTable[n.toNat]? = some c)
        (target : directiveTarget c = r) (length : directiveArgLength c = Directive.size n) :
        directiveFault r d.code d.arg = .ok c := by
      rw [its] at fits ⊢
      rw [directiveFault, listed]
      exact (if_neg (not_not_intro target)).trans (if_neg (not_not_intro (fits.trans length.symm)))
    obtain ⟨i, c, fault, request, which⟩ : ∃ i c, directiveFault r d.code d.arg = .ok c ∧
        exec i s = answered i (s.runningRequest r (directiveRequest c (d.arg.headD 0#8))) ∧
        (i = .setLithology (d.arg.headD 0#8) ∧ r = .head ∧ d.code = 0#8 ∨
          i = .addRemark (d.arg.headD 0#8) ∧ r = .head ∧ d.code = 1#8 ∨
          i = .markWater ∧ r = .head ∧ d.code = 2#8 ∨
          i = .startPump (d.arg.headD 0#8) ∧ r = .mud ∧ d.code = 3#8 ∨
          i = .stopPump (d.arg.headD 0#8) ∧ r = .mud ∧ d.code = 4#8 ∨
          i = .stopTrip ∧ r = .handler ∧ d.code = 5#8) := by
      rcases suits.mpr suited with ⟨rfl, its | its⟩ | ⟨rfl, its⟩ | ⟨rfl, its | its | its⟩
      · exact ⟨.startPump (d.arg.headD 0#8), _, faultless its rfl rfl rfl, rfl, by simp [its]⟩
      · exact ⟨.stopPump (d.arg.headD 0#8), _, faultless its rfl rfl rfl, rfl, by simp [its]⟩
      · exact ⟨.stopTrip, _, faultless its rfl rfl rfl, rfl, by simp [its]⟩
      · exact ⟨.setLithology (d.arg.headD 0#8), _, faultless its rfl rfl rfl, rfl, by simp [its]⟩
      · exact ⟨.addRemark (d.arg.headD 0#8), _, faultless its rfl rfl rfl, rfl, by simp [its]⟩
      · exact ⟨.markWater, _, faultless its rfl rfl rfl, rfl, by simp [its]⟩
    obtain ⟨next, port⟩ := exec_of_directive acts fault request
    exact ⟨i, _, _, which, next, port, taken⟩

end Sys2Proof
end

section
/-! SUPPORT. What the node clock, the time base and the two resets leave (chapter 12), for O28 and O29. -/

namespace Sys2Proof.Machine

theorem exec_setClock (day minute : BitVec 16) (second : Byte) (s : State) :
    exec (.setClock day minute second) s = answered (.setClock day minute second) (setClockRequest day minute second s) :=
  rfl

theorem exec_timeBaseStep (s : State) : exec .timeBaseStep s = execTimeBaseStep s := rfl

theorem within_iff (low high v : Nat) : within low high v = true ↔ low ≤ v ∧ v ≤ high := by
  simp [within]

theorem within_eq_false (low high v : Nat) : within low high v = false ↔ ¬(low ≤ v ∧ v ≤ high) := by
  rw [← within_iff, Bool.not_eq_true]

theorem setClock_badDay {day : BitVec 16} (minute : BitVec 16) (second : Byte) (s : State) (bad : day.toNat = 65535) :
    setClockRequest day minute second s = (badValue 1, s) := by
  simp [setClockRequest, firstBad, checksFrom, within, bad]

theorem setClock_badMinute {day minute : BitVec 16} (second : Byte) (s : State) (good : day.toNat ≤ 65534)
    (bad : 1440 ≤ minute.toNat) : setClockRequest day minute second s = (badValue 2, s) := by
  have : ¬minute.toNat ≤ 1439 := by omega
  simp [setClockRequest, firstBad, checksFrom, within, good, this]

theorem setClock_badSecond {day minute : BitVec 16} {second : Byte} (s : State) (goodDay : day.toNat ≤ 65534)
    (goodMinute : minute.toNat ≤ 1439) (bad : 60 ≤ second.toNat) :
    setClockRequest day minute second s = (badValue 3, s) := by
  have : ¬second.toNat ≤ 59 := by omega
  simp [setClockRequest, firstBad, checksFrom, within, goodDay, goodMinute, this]

theorem setClock_ok {day minute : BitVec 16} {second : Byte} (s : State) (goodDay : day.toNat ≤ 65534)
    (goodMinute : minute.toNat ≤ 1439) (good : second.toNat ≤ 59) :
    setClockRequest day minute second s = (okWith [], { s with
      clock := ⟨some ⟨day.toNat, minute.toNat, second.toNat⟩, none⟩
      timers := { s.timers with clock := some (s.now + Config.second) } }) := by
  simp [setClockRequest, firstBad, checksFrom, within, goodDay, goodMinute, good]

theorem execClockSecond_set {s : State} {now : ClockTime} (set : s.clock.time = some now) :
    exec .clockSecond s = .next { s with
      clock := ⟨some now.tick, if now.second < 59 then none else some (s.now, now.minute)⟩
      timers := { s.timers with clock := some (s.now + Config.second) } } := by
  show execClockSecond s = _
  rw [execClockSecond, set]

theorem ClockTime.tick_eq (now : ClockTime) :
    now.tick =
      if now.second < 59 then { now with second := now.second + 1 }
      else if now.minute < 1439 then { now with second := 0, minute := now.minute + 1 }
      else if now.day < 65534 then ⟨now.day + 1, 0, 0⟩ else ⟨0, 0, 0⟩ := by
  rw [ClockTime.tick]
  (repeat' split) <;> rfl

/-- The last step of the step timer is left to its expiry: the tick is an effect of the timer that has a step left. -/
theorem Sequencer.tick_eq (q : Sequencer) : q.tick = if 1 < q.timer then { q with timer := q.timer - 1 } else q := by
  rw [Sequencer.tick]
  (repeat' split) <;> rfl

theorem Sequencer.tick_if (q : Sequencer) (runs : Bool) :
    (if runs = true ∧ 1 < q.timer then { q with timer := q.timer - 1 } else q) = if runs then q.tick else q := by
  rw [Sequencer.tick_eq]
  cases runs <;> simp

theorem PumpRecord.tick_eq (p : PumpRecord) :
    p.tick = { p with
      timer := if 1 < p.timer then p.timer - 1 else p.timer
      tenths := if p.state = .running then (if p.tenths = 9 then 0 else p.tenths + 1) else p.tenths
      seconds := if p.state = .running ∧ p.tenths = 9 then min 4294967295 (p.seconds + 1) else p.seconds } := by
  rw [PumpRecord.tick]
  dsimp only
  by_cases running : p.state = .running
  · by_cases full : p.tenths = 9 <;> simp [running, full, satAdd, max32, Nat.min_comm]
  · simp [running]

theorem Interval.tick_eq (iv : Interval) :
    iv.tick = { iv with
      bottomTenths := if iv.bottomTenths = 9 then 0 else iv.bottomTenths + 1
      bottomSeconds := if iv.bottomTenths = 9 then min 4294967295 (iv.bottomSeconds + 1) else iv.bottomSeconds } := by
  rw [Interval.tick]
  (repeat' split) <;> rfl

/-- The parts that TIME_BASE_STEP moves, each as a function of its own part of the state. -/
theorem execTimeBaseStep_eq (s : State) :
    execTimeBaseStep s = .next { s.toTenth with
      seq := if s.stepTimerRuns then s.seq.tick else s.seq
      circ := if s.acts .mud then s.circ.tick else s.circ
      log := if s.acts .head && s.log.onBottom then
        { s.log with current := s.log.current.tick } else s.log } := by
  rw [execTimeBaseStep]
  refine congrArg Host.Outcome.next ?_
  cases s.stepTimerRuns <;> cases s.acts .mud <;> cases (s.acts .head && s.log.onBottom) <;> rfl

end Sys2Proof.Machine

namespace Sys2Proof

open Machine

/-- Settles O28: SET_CLOCK by its first bad field, the clock and the time base part by part. -/
theorem clockAndTimeBaseAdvance : Obligations.ClockAndTimeBaseAdvance := by
  unfold Obligations.ClockAndTimeBaseAdvance
  intro day minute second s
  dsimp only
  refine ⟨fun bad => ?_, fun good bad => ?_, fun goodDay goodMinute bad => ?_, fun goodDay goodMinute good => ?_,
    fun unset => ?_, fun now set => ⟨if now.second < 59 then none else some (s.now, now.minute), ?_, fun early => if_pos early,
      fun late => if_neg (Nat.not_lt.2 late)⟩, ?_, PumpRecord.tick_eq, Interval.tick_eq⟩
  · rw [exec_setClock, setClock_badDay minute second s bad]
    rfl
  · rw [exec_setClock, setClock_badMinute second s good bad]
    rfl
  · rw [exec_setClock, setClock_badSecond s goodDay goodMinute bad]
    rfl
  · rw [exec_setClock, setClock_ok s goodDay goodMinute good]
    rfl
  · show execClockSecond s = _
    rw [execClockSecond, unset]
  · rw [execClockSecond_set set, ClockTime.tick_eq]
    rfl
  · rw [exec_timeBaseStep, execTimeBaseStep_eq, Sequencer.tick_if]
    simp only [Bool.and_eq_true]
    rfl

/-- Settles O29: a reset is an equation, field by field. -/
theorem resetsClearAndKeep : Obligations.ResetsClearAndKeep := by
  unfold Obligations.ResetsClearAndKeep
  intro memoryKept s
  dsimp only
  refine ⟨?_, fun marker kept => ?_, fun lost => ?_⟩
  · rfl
  · have valid : (s.node.marker && memoryKept) = true := by simp [marker, kept]
    show execPowerOnReset memoryKept s = _
    rw [execPowerOnReset, valid]
    rfl
  · have invalid : (s.node.marker && memoryKept) = false := by
      rcases lost with lost | lost <;> simp [lost]
    show execPowerOnReset memoryKept s = _
    rw [execPowerOnReset, invalid]
    rfl

end Sys2Proof
end

section
/-! SUPPORT. The rod requests in the order of their checks (chapter 4), for O30 and O31. -/

namespace Sys2Proof.Machine

/-- A sequencer at work or a plan with cycles left (R61). -/
theorem State.cycleActive_iff (s : State) :
    s.cycleActive = true ↔ s.seq.state ≠ .idle ∨ 0 < s.seq.plan.remaining := by
  simp [State.cycleActive]

theorem State.inventoryRequest_busy {s : State} (f : State → Answered) (acts : s.acts .handler = true)
    (busy : s.seq.state ≠ .idle ∨ 0 < s.seq.plan.remaining) : s.inventoryRequest f = s.refused .busy := by
  rw [State.inventoryRequest, State.handlerRequest, State.runningRequest_acting _ acts,
    if_pos (s.cycleActive_iff.2 busy)]

theorem State.inventoryRequest_free {s : State} (f : State → Answered) (acts : s.acts .handler = true)
    (free : ¬(s.seq.state ≠ .idle ∨ 0 < s.seq.plan.remaining)) : s.inventoryRequest f = f s := by
  rw [State.inventoryRequest, State.handlerRequest, State.runningRequest_acting _ acts,
    if_neg (mt s.cycleActive_iff.1 free)]

theorem slotOf_val {n : Nat} {i : RackSlot} (slot : n = i.val) : slotOf n = some i := by
  subst slot
  exact dif_pos i.isLt

theorem slotOf_large {n : Nat} (large : 60 ≤ n) : slotOf n = none := dif_neg (by omega)

theorem exists_slot {n : Nat} (small : n < 60) : ∃ i : RackSlot, n = i.val := ⟨⟨n, small⟩, rfl⟩

theorem Inventory.hasId_iff (v : Inventory) (id : Nat) : v.hasId id = true ↔ id ∈ v.ids := by
  simp [Inventory.hasId, Inventory.ids, List.any_eq_true, Option.any_eq_true, -Vector.any_toList, or_assoc]

theorem sum_rodLengths (l : List Rod) : ((l.map (·.length)).sum : Nat) = (l.map fun r => (r.length : Int)).sum := by
  induction l with
  | nil => rfl
  | cons r l ih => rw [List.map_cons, List.sum_cons, List.map_cons, List.sum_cons, Int.natCast_add, ih]

theorem Inventory.length_eq (v : Inventory) :
    v.length = (((v.string.map (·.length)).sum : Int) + v.tally).toNat := by
  rw [Inventory.length, Inventory.sumOfLengths, sum_rodLengths]

/-- The rod record that a valid ID, kind and length make (R52). -/
def State.rodOf (s : State) (id length count : BitVec 16) (k : RodKind) : Rod :=
  { id := id.toNat, kind := k, length := length.toNat, makeups := count.toNat
    status := .serviceable, registeredAt := s.clock.time.map (·.day) }

theorem State.rodOf_known {s : State} {id length count : BitVec 16} {k : RodKind} (known : id.toNat ∈ s.inventory.ids) :
    s.inventory.hasId (s.rodOf id length count k).id = true := (Inventory.hasId_iff _ _).2 known

theorem State.rodOf_new {s : State} {id length count : BitVec 16} {k : RodKind} (new : id.toNat ∉ s.inventory.ids) :
    ¬s.inventory.hasId (s.rodOf id length count k).id = true := mt (Inventory.hasId_iff _ _).1 new

theorem State.newRod_badId {s : State} {id : BitVec 16} (kind : Byte) (length count : BitVec 16) (bad : id = 0#16) :
    s.newRod id kind length count = .error 1 := if_pos bad

theorem State.newRod_badKind {s : State} {id : BitVec 16} {kind : Byte} (length count : BitVec 16) (good : id ≠ 0#16)
    (bad : 6 ≤ kind.toNat) : s.newRod id kind length count = .error 2 := by
  have unlisted : rodKindTable[kind.toNat]? = none := List.getElem?_eq_none bad
  rw [State.newRod, if_neg good, unlisted]

theorem State.newRod_listed {s : State} {id length count : BitVec 16} {kind : Byte} {k : RodKind} (good : id ≠ 0#16)
    (listed : rodKindTable[kind.toNat]? = some k) :
    s.newRod id kind length count =
      if length.toNat < 100 ∨ 9999 < length.toNat then .error 3 else .ok (s.rodOf id length count k) := by
  rw [State.newRod, if_neg good, listed]
  rfl

theorem exists_rodKind {kind : Byte} (small : kind.toNat < 6) : ∃ k, rodKindTable[kind.toNat]? = some k :=
  ⟨_, List.getElem?_eq_getElem small⟩

theorem State.newRod_badLength {s : State} {id length count : BitVec 16} {kind : Byte} (good : id ≠ 0#16)
    (small : kind.toNat < 6) (bad : length.toNat < 100 ∨ 9999 < length.toNat) :
    s.newRod id kind length count = .error 3 := by
  obtain ⟨k, listed⟩ := exists_rodKind small
  rw [State.newRod_listed good listed, if_pos bad]

theorem State.newRod_ok {s : State} {id length count : BitVec 16} {kind : Byte} {k : RodKind} (good : id ≠ 0#16)
    (code : kind.toNat = codeOf rodKindTable k) (fits : ¬(length.toNat < 100 ∨ 9999 < length.toNat)) :
    s.newRod id kind length count = .ok (s.rodOf id length count k) := by
  rw [State.newRod_listed good (code ▸ rodKindTable_code k), if_neg fits]

section

variable {slot kind : Byte} {id length count : BitVec 16} {s : State} {i : RackSlot} {n : Nat} {r : Rod}

theorem registerRodRequest_badSlot (large : 60 ≤ slot.toNat) :
    registerRodRequest slot id kind length count s = (badValue 1, s) := by
  rw [registerRodRequest, slotOf_large large]

theorem registerRodRequest_badRod (its : slot.toNat = i.val) (bad : s.newRod id kind length count = .error n) :
    registerRodRequest slot id kind length count s = (badValue (n + 1), s) := by
  rw [registerRodRequest, slotOf_val its]
  dsimp only
  rw [bad]

theorem registerRodRequest_good (its : slot.toNat = i.val) (good : s.newRod id kind length count = .ok r) :
    registerRodRequest slot id kind length count s =
      if s.inventory.rack[i].isSome then s.refused .slotOccupied
      else if s.inventory.hasId r.id then s.refused .duplicateId
      else (okWith (be 1 i.val ++ be 2 r.id ++
          be 1 { s.inventory with rack := put s.inventory.rack i (some r) }.serviceableCount),
        { s with inventory := { s.inventory with rack := put s.inventory.rack i (some r) } }) := by
  rw [registerRodRequest, slotOf_val its]
  dsimp only
  rw [good]

theorem appendStringRequest_bad (bad : s.newRod id kind length count = .error n) :
    appendStringRequest id kind length count s = (badValue n, s) := by
  rw [appendStringRequest, bad]

theorem appendStringRequest_good (good : s.newRod id kind length count = .ok r) :
    appendStringRequest id kind length count s =
      if 160 ≤ s.inventory.string.length then s.refused .stringFull
      else if s.inventory.hasId r.id then s.refused .duplicateId
      else (okWith (be 1 (s.inventory.string ++ [r]).length ++
          be 4 { s.inventory with string := s.inventory.string ++ [r] }.length),
        { s with inventory := { s.inventory with string := s.inventory.string ++ [r] } }) := by
  rw [appendStringRequest, good]
  rfl

theorem unregisterRodRequest_badSlot (large : 60 ≤ slot.toNat) : unregisterRodRequest slot s = (badValue 1, s) := by
  rw [unregisterRodRequest, slotOf_large large]

theorem unregisterRodRequest_empty (its : slot.toNat = i.val) (empty : s.inventory.rack[i] = none) :
    unregisterRodRequest slot s = s.refused .slotEmpty := by
  rw [unregisterRodRequest, slotOf_val its]
  dsimp only
  rw [empty]

theorem unregisterRodRequest_rod (its : slot.toNat = i.val) (rod : s.inventory.rack[i] = some r) :
    unregisterRodRequest slot s = (okWith (rodField (some r)),
      { s with inventory := { s.inventory with rack := put s.inventory.rack i none } }) := by
  rw [unregisterRodRequest, slotOf_val its]
  dsimp only
  rw [rod]

/-- The slot, ID and kind checks of one rod request: REGISTER_ROD numbers a bad rod field one later than APPEND_STRING,
since its slot stands before. -/
theorem registerRod_of_badRod (acts : s.acts .handler = true)
    (free : ¬(s.seq.state ≠ .idle ∨ 0 < s.seq.plan.remaining)) (small : slot.toNat < 60)
    (bad : s.newRod id kind length count = .error n) :
    exec (.registerRod slot id kind length count) s =
      answered (.registerRod slot id kind length count) (badValue (n + 1), s) := by
  obtain ⟨i, its⟩ := exists_slot small
  show answered _ (s.inventoryRequest _) = _
  rw [State.inventoryRequest_free _ acts free, registerRodRequest_badRod its bad]

theorem appendString_of_badRod (acts : s.acts .handler = true)
    (free : ¬(s.seq.state ≠ .idle ∨ 0 < s.seq.plan.remaining)) (bad : s.newRod id kind length count = .error n) :
    exec (.appendString id kind length count) s = answered (.appendString id kind length count) (badValue n, s) := by
  show answered _ (s.inventoryRequest _) = _
  rw [State.inventoryRequest_free _ acts free, appendStringRequest_bad bad]

theorem exec_registerRod_free (acts : s.acts .handler = true)
    (free : ¬(s.seq.state ≠ .idle ∨ 0 < s.seq.plan.remaining)) :
    exec (.registerRod slot id kind length count) s =
      answered (.registerRod slot id kind length count) (registerRodRequest slot id kind length count s) := by
  show answered _ (s.inventoryRequest _) = _
  rw [State.inventoryRequest_free _ acts free]

theorem exec_unregisterRod_free (acts : s.acts .handler = true)
    (free : ¬(s.seq.state ≠ .idle ∨ 0 < s.seq.plan.remaining)) :
    exec (.unregisterRod slot) s = answered (.unregisterRod slot) (unregisterRodRequest slot s) := by
  show answered _ (s.inventoryRequest _) = _
  rw [State.inventoryRequest_free _ acts free]

theorem exec_appendString_free (acts : s.acts .handler = true)
    (free : ¬(s.seq.state ≠ .idle ∨ 0 < s.seq.plan.remaining)) :
    exec (.appendString id kind length count) s =
      answered (.appendString id kind length count) (appendStringRequest id kind length count s) := by
  show answered _ (s.inventoryRequest _) = _
  rw [State.inventoryRequest_free _ acts free]

theorem setCarouselRequest_slot (its : slot.toNat = i.val) :
    setCarouselRequest slot s = (okWith [slot], { s with inventory := { s.inventory with carousel := i } }) := by
  rw [setCarouselRequest, slotOf_val its]
  have byte : be 1 i.val = [slot] := by simp [be, ← its]
  simp only [byte]

theorem exec_setCarousel_free (acts : s.acts .handler = true)
    (free : ¬(s.seq.state ≠ .idle ∨ 0 < s.seq.plan.remaining)) :
    exec (.setCarousel slot) s = answered (.setCarousel slot) (setCarouselRequest slot s) := by
  show answered _ (s.inventoryRequest _) = _
  rw [State.inventoryRequest_free _ acts free]

theorem exec_inventoryRequest_busy {c : Instr} {f : State → Answered}
    (request : exec c s = answered c (s.inventoryRequest f)) (acts : s.acts .handler = true)
    (busy : s.seq.state ≠ .idle ∨ 0 < s.seq.plan.remaining) :
    exec c s = .next (s.replied c ⟨.busy, []⟩) := by
  rw [request, State.inventoryRequest_busy f acts busy]
  rfl

theorem exec_correctTally (offset : BitVec 16) (acts : s.acts .handler = true) :
    exec (.correctTally offset) s = answered (.correctTally offset) (correctTallyRequest offset s) := by
  show answered _ (s.runningRequest .handler _) = _
  rw [State.runningRequest_acting _ acts]

theorem exec_clearTally (acts : s.acts .handler = true) :
    exec .clearTally s = answered .clearTally (clearTallyRequest s) := by
  show answered _ (s.runningRequest .handler _) = _
  rw [State.runningRequest_acting _ acts]

theorem exec_carouselPulse (s : State) : exec .carouselPulse s = .next (if s.acts .handler then
    { s with inventory := { s.inventory with carousel := s.inventory.carousel + 1 } } else s) := rfl

end

/-- The carousel index counts in the ring of sixty. -/
theorem RackSlot.add_one_val (i : RackSlot) : (i + 1).val = if i.val = 59 then 0 else i.val + 1 := by
  have next : (i + 1).val = (i.val + 1) % 60 := Fin.val_add i 1
  split <;> omega

end Sys2Proof.Machine

namespace Sys2Proof

open Machine

/-- Settles O30: each request check by check, over the lemmas that make a rod record or name its first bad field. -/
theorem rodRecordsComeAndGo : Obligations.RodRecordsComeAndGo := by
  unfold Obligations.RodRecordsComeAndGo
  intro slot kind id length count s acts
  dsimp only
  refine ⟨fun busy => ⟨exec_inventoryRequest_busy rfl acts busy, exec_inventoryRequest_busy rfl acts busy,
    exec_inventoryRequest_busy rfl acts busy⟩, fun free => ⟨fun large => ⟨?_, ?_⟩, fun badId => ?_, fun goodId badKind => ?_,
    fun goodId goodKind badLength => ?_, fun i its => ⟨fun empty => ?_, fun r rod => ?_⟩, fun k goodId code fits => ?_⟩⟩
  · rw [exec_registerRod_free acts free, registerRodRequest_badSlot large]
    rfl
  · rw [exec_unregisterRod_free acts free, unregisterRodRequest_badSlot large]
    rfl
  · have bad := State.newRod_badId (s := s) kind length count badId
    exact ⟨appendString_of_badRod acts free bad, fun small => registerRod_of_badRod acts free small bad⟩
  · have bad := State.newRod_badKind (s := s) length count goodId badKind
    exact ⟨appendString_of_badRod acts free bad, fun small => registerRod_of_badRod acts free small bad⟩
  · have bad := State.newRod_badLength (s := s) (count := count) goodId goodKind badLength
    exact ⟨appendString_of_badRod acts free bad, fun small => registerRod_of_badRod acts free small bad⟩
  · rw [exec_unregisterRod_free acts free, unregisterRodRequest_empty its empty]
    rfl
  · rw [exec_unregisterRod_free acts free, unregisterRodRequest_rod its rod]
    rfl
  · have good := State.newRod_ok (s := s) (count := count) goodId code fits
    refine ⟨fun i its => ⟨fun taken => ?_, fun empty known => ?_, fun empty new => ?_⟩, fun full => ?_,
      fun room known => ?_, fun room new => ?_⟩
    · rw [exec_registerRod_free acts free, registerRodRequest_good its good, if_pos (Option.isSome_iff_ne_none.2 taken)]
      rfl
    · rw [exec_registerRod_free acts free, registerRodRequest_good its good, if_neg (by simp [empty]),
        if_pos (State.rodOf_known known)]
      rfl
    · rw [exec_registerRod_free acts free, registerRodRequest_good its good, if_neg (by simp [empty]),
        if_neg (State.rodOf_new new)]
      rfl
    · rw [exec_appendString_free acts free, appendStringRequest_good good, if_pos full]
      rfl
    · rw [exec_appendString_free acts free, appendStringRequest_good good, if_neg (Nat.not_le.2 room),
        if_pos (State.rodOf_known known)]
      rfl
    · rw [exec_appendString_free acts free, appendStringRequest_good good, if_neg (Nat.not_le.2 room),
        if_neg (State.rodOf_new new), List.length_append]
      rfl

/-- Settles O31: the carousel in its ring of sixty slots, the tally by its range and the string that it corrects. -/
theorem carouselAndTallyAreSet : Obligations.CarouselAndTallyAreSet := by
  unfold Obligations.CarouselAndTallyAreSet
  intro index offset s
  dsimp only
  refine ⟨fun acts busy => exec_inventoryRequest_busy rfl acts busy, fun acts free large => ?_,
    fun i acts free its => ?_, fun i acts next => ?_, fun still => ?_, fun acts bad => ?_, fun acts low high none => ?_,
    fun acts low high some => ?_, fun acts => ?_, s.inventory.length_eq⟩
  · rw [exec_setCarousel_free acts free, setCarouselRequest, slotOf_large large]
    rfl
  · rw [exec_setCarousel_free acts free, setCarouselRequest_slot its]
    rfl
  · have slot : i = s.inventory.carousel + 1 := Fin.ext (next.trans (RackSlot.add_one_val _).symm)
    rw [exec_carouselPulse, if_pos acts, slot]
  · rw [exec_carouselPulse, if_neg (by simp [still])]
  · rw [exec_correctTally offset acts, correctTallyRequest, if_pos bad]
    rfl
  · rw [exec_correctTally offset acts, correctTallyRequest, if_neg (by omega), if_pos none]
    rfl
  · rw [exec_correctTally offset acts, correctTallyRequest, if_neg (by omega), if_neg some]
    rfl
  · rw [exec_clearTally acts]
    rfl

end Sys2Proof
end

section
/-! SUPPORT. The search of the rack, the start of a cycle and the trip plan (chapter 5), for O32 to O34. -/

namespace Sys2Proof.Machine

/-! ### The search order of the rack (R60) -/

theorem RackSlot.add_sub_back (c i : RackSlot) : c + (i - c) = i :=
  Fin.ext (by rw [Fin.val_add, Fin.val_sub]; omega)

theorem RackSlot.add_sub_same (c i : RackSlot) : c + i - c = i :=
  Fin.ext (by rw [Fin.val_sub, Fin.val_add]; omega)

/-- The search order meets a slot after as many others as lie between the carousel index and it. -/
theorem Inventory.find_searchOrder {v : Inventory} {p : RackSlot → Bool} {i : RackSlot} (hit : p i = true)
    (first : ∀ j : RackSlot, j - v.carousel < i - v.carousel → p j = false) : v.searchOrder.find? p = some i := by
  rw [List.find?_eq_some_iff_getElem]
  refine ⟨hit, (i - v.carousel).val, by simp [searchOrder, rackSlots],
    by simp [searchOrder, rackSlots, RackSlot.add_sub_back], fun j before => ?_⟩
  have slot : v.searchOrder[j]'(by simp [searchOrder, rackSlots]; omega) = v.carousel + ⟨j, by omega⟩ := by
    simp [searchOrder, rackSlots]
  rw [slot, first _ (by rw [RackSlot.add_sub_same]; exact before)]
  rfl

theorem Inventory.mem_searchOrder (v : Inventory) (i : RackSlot) : i ∈ v.searchOrder := by
  rw [searchOrder, List.mem_map]
  exact ⟨i - v.carousel, List.mem_finRange _, RackSlot.add_sub_back v.carousel i⟩

theorem rodServiceable_iff (r : Option Rod) : rodServiceable r = true ↔ ∃ rod, r = some rod ∧ rod.status = .serviceable := by
  cases r <;> simp [rodServiceable]

theorem Inventory.makeupSlot_first {v : Inventory} {i : RackSlot}
    (hit : ∃ r, v.rack[i] = some r ∧ r.status = .serviceable)
    (first : ∀ j : RackSlot, j - v.carousel < i - v.carousel → ¬∃ r, v.rack[j] = some r ∧ r.status = .serviceable) :
    v.makeupSlot = some i :=
  Inventory.find_searchOrder ((rodServiceable_iff _).2 hit) fun j before =>
    Bool.eq_false_iff.2 (mt (rodServiceable_iff _).1 (first j before))

theorem Inventory.storeSlot_first {v : Inventory} {i : RackSlot} (empty : v.rack[i] = none)
    (first : ∀ j : RackSlot, j - v.carousel < i - v.carousel → v.rack[j] ≠ none) : v.storeSlot = some i :=
  Inventory.find_searchOrder (Option.isNone_iff_eq_none.2 empty) fun j before =>
    Bool.eq_false_iff.2 (mt Option.isNone_iff_eq_none.1 (first j before))

theorem Inventory.makeupSlot_none (v : Inventory) :
    v.makeupSlot = none ↔ ∀ j : RackSlot, ¬∃ r, v.rack[j] = some r ∧ r.status = .serviceable := by
  simp only [makeupSlot, List.find?_eq_none, mem_searchOrder, forall_const, rodServiceable_iff]

theorem Inventory.storeSlot_none (v : Inventory) : v.storeSlot = none ↔ ∀ j : RackSlot, v.rack[j] ≠ none := by
  simp only [storeSlot, List.find?_eq_none, mem_searchOrder, forall_const, Option.isNone_iff_eq_none, ne_eq]

theorem Inventory.forall_rack_iff (v : Inventory) (p : Option Rod → Prop) :
    (∀ r ∈ v.rack.toList, p r) ↔ ∀ j : RackSlot, p v.rack[j] := by
  refine ⟨fun all j => all _ (Vector.mem_toList_iff.2 (Vector.getElem_mem j.isLt)), fun all r mem => ?_⟩
  obtain ⟨j, small, rfl⟩ := Vector.getElem_of_mem (Vector.mem_toList_iff.1 mem)
  exact all ⟨j, small⟩

theorem Inventory.serviceableCount_zero (v : Inventory) : v.serviceableCount = 0 ↔ v.makeupSlot = none := by
  simp only [serviceableCount, makeupSlot, List.countP_eq_zero, List.find?_eq_none, mem_searchOrder, forall_const]
  exact v.forall_rack_iff fun r => ¬rodServiceable r = true

theorem Inventory.emptyCount_zero (v : Inventory) : v.emptyCount = 0 ↔ v.storeSlot = none := by
  simp only [emptyCount, storeSlot, List.countP_eq_zero, List.find?_eq_none, mem_searchOrder, forall_const]
  exact v.forall_rack_iff fun r => ¬r.isNone = true

theorem Inventory.exists_makeupSlot {v : Inventory} (some : 0 < v.serviceableCount) : ∃ i, v.makeupSlot = .some i :=
  Option.isSome_iff_exists.1 (Option.isSome_iff_ne_none.2 (mt v.serviceableCount_zero.2 (Nat.ne_of_gt some)))

theorem Inventory.exists_storeSlot {v : Inventory} (some : 0 < v.emptyCount) : ∃ i, v.storeSlot = .some i :=
  Option.isSome_iff_exists.1 (Option.isSome_iff_ne_none.2 (mt v.emptyCount_zero.2 (Nat.ne_of_gt some)))

/-! ### A cycle started (R74) -/

/-- SLIPS entered for a cycle of a kind with a fixed slot, its entry check not yet made. -/
def State.cycleBegun (k : CycleKind) (i : RackSlot) (s : State) : State :=
  { s with seq := { s.seq with
      state := .active, kind := k, step := some .slips, slot := some i, fault := none
      timer := s.stepLoad, marker := some ⟨k, .slips, .active, i, s.inventory.transit.map (·.id)⟩ } }

section

variable {s : State} {i : RackSlot}

theorem State.startCycle_rackEmpty (empty : s.inventory.makeupSlot = none) : s.startCycle .makeup = .error .rackEmpty := by
  rw [startCycle, empty]

theorem State.startCycle_stringFull (slot : s.inventory.makeupSlot = some i) (full : 160 ≤ s.inventory.string.length) :
    s.startCycle .makeup = .error .stringFull := by
  rw [startCycle, slot]
  exact if_neg (Nat.not_lt.2 full)

theorem State.startCycle_makeup (slot : s.inventory.makeupSlot = some i) (room : s.inventory.string.length < 160) :
    s.startCycle .makeup = .ok (s.cycleBegun .makeup i) := by
  rw [startCycle, slot]
  exact if_pos room

theorem State.startCycle_stringEmpty (empty : s.inventory.string = []) : s.startCycle .breakout = .error .stringEmpty :=
  if_pos empty

theorem State.startCycle_rackFull (some : s.inventory.string ≠ []) (full : s.inventory.storeSlot = none) :
    s.startCycle .breakout = .error .rackFull := by
  rw [startCycle, full]
  exact if_neg some

theorem State.startCycle_breakout (some : s.inventory.string ≠ []) (slot : s.inventory.storeSlot = .some i) :
    s.startCycle .breakout = .ok (s.cycleBegun .breakout i) := by
  rw [startCycle, slot]
  exact if_neg some

theorem exec_makeup (acts : s.acts .handler = true) : exec .makeup s = answered .makeup (cycleRequest .makeup s) := by
  show answered _ (s.runningRequest .handler _) = _
  rw [State.runningRequest_acting _ acts]

theorem exec_breakout (acts : s.acts .handler = true) : exec .breakout s = answered .breakout (cycleRequest .breakout s) := by
  show answered _ (s.runningRequest .handler _) = _
  rw [State.runningRequest_acting _ acts]

theorem cycleRequest_busy (k : CycleKind) (busy : s.seq.state ≠ .idle ∨ 0 < s.seq.plan.remaining) :
    cycleRequest k s = s.refused .busy := if_pos (s.cycleActive_iff.2 busy)

theorem cycleRequest_held (k : CycleKind) (free : ¬(s.seq.state ≠ .idle ∨ 0 < s.seq.plan.remaining))
    (held : s.held = true) : cycleRequest k s = s.refused .held := by
  rw [cycleRequest, if_neg (mt s.cycleActive_iff.1 free), if_pos held]

theorem cycleRequest_refused {k : CycleKind} {code : Status} (free : ¬(s.seq.state ≠ .idle ∨ 0 < s.seq.plan.remaining))
    (calm : s.held = false) (refused : s.startCycle k = .error code) : cycleRequest k s = s.refused code := by
  rw [cycleRequest, if_neg (mt s.cycleActive_iff.1 free), if_neg (by simp [calm]), refused]

theorem cycleRequest_begun {k : CycleKind} (free : ¬(s.seq.state ≠ .idle ∨ 0 < s.seq.plan.remaining))
    (calm : s.held = false) (started : s.startCycle k = .ok (s.cycleBegun k i)) :
    cycleRequest k s = (okWith (codeByte cycleKindTable k ++ be 1 i.val ++ be 2 (s.concernedRod k i)),
      (s.cycleBegun k i).settle) := by
  rw [cycleRequest, if_neg (mt s.cycleActive_iff.1 free), if_neg (by simp [calm]), started]
  rfl

/-! ### Trip plans (R81, R51) -/

/-- A trip plan laid down before the cycle that it starts. -/
def State.planned (plan : TripPlan) (s : State) : State := { s with seq := { s.seq with plan := plan } }

/-- A plan taken out of its hold pause. -/
def TripPlan.resumed (p : TripPlan) : TripPlan := { p with holdPause := false }

/-- A plan's cycle started by a command: the answer and what it leaves of the plan. -/
def State.tripStarts (s : State) (k : CycleKind) (plan : TripPlan) (c : Instr) (count : Nat) : Prop :=
  ∃ u, (s.planned plan).startCycle k = .ok u ∧
    exec c s = .next (u.settle.replied c ⟨.ok, be 1 count⟩) ∧
    u.seq.plan = plan ∧ u.seq.state = .active ∧ u.seq.kind = k ∧ u.seq.step = some .slips ∧
    u.seq.slot = (if k = .makeup then s.inventory.makeupSlot else s.inventory.storeSlot) ∧ u.inventory = s.inventory

theorem State.tripStarts_makeup {plan : TripPlan} {c : Instr} {count : Nat} (rods : 0 < s.inventory.serviceableCount)
    (room : s.inventory.string.length < 160)
    (run : ∀ u, (s.planned plan).startCycle .makeup = .ok u → exec c s = answered c (okWith (be 1 count), u.settle)) :
    s.tripStarts .makeup plan c count := by
  obtain ⟨i, slot⟩ := Inventory.exists_makeupSlot rods
  have started := State.startCycle_makeup (s := s.planned plan) slot room
  exact ⟨_, started, run _ started, rfl, rfl, rfl, rfl, slot.symm, rfl⟩

theorem State.tripStarts_breakout {plan : TripPlan} {c : Instr} {count : Nat} (places : 0 < s.inventory.emptyCount)
    (some : s.inventory.string ≠ [])
    (run : ∀ u, (s.planned plan).startCycle .breakout = .ok u → exec c s = answered c (okWith (be 1 count), u.settle)) :
    s.tripStarts .breakout plan c count := by
  obtain ⟨i, slot⟩ := Inventory.exists_storeSlot places
  have started := State.startCycle_breakout (s := s.planned plan) some slot
  exact ⟨_, started, run _ started, rfl, rfl, rfl, rfl, slot.symm, rfl⟩

theorem exec_tripIn (n : Byte) (acts : s.acts .handler = true) :
    exec (.tripIn n) s = answered (.tripIn n) (tripRequest .makeup n s) := by
  show answered _ (s.runningRequest .handler _) = _
  rw [State.runningRequest_acting _ acts]

theorem exec_tripOut (n : Byte) (acts : s.acts .handler = true) :
    exec (.tripOut n) s = answered (.tripOut n) (tripRequest .breakout n s) := by
  show answered _ (s.runningRequest .handler _) = _
  rw [State.runningRequest_acting _ acts]

theorem exec_resume (acts : s.acts .handler = true) : exec .resume s = answered .resume (resumeRequest s) := by
  show answered _ (s.runningRequest .handler _) = _
  rw [State.runningRequest_acting _ acts]

theorem exec_stopTrip (acts : s.acts .handler = true) : exec .stopTrip s = answered .stopTrip (stopTripRequest s) := by
  show answered _ (s.runningRequest .handler _) = _
  rw [State.runningRequest_acting _ acts]

section

variable {k : CycleKind} {n : Byte}

theorem tripRequest_busy (k : CycleKind) (n : Byte) (busy : s.seq.state ≠ .idle ∨ 0 < s.seq.plan.remaining) :
    tripRequest k n s = s.refused .busy := if_pos (s.cycleActive_iff.2 busy)

variable (free : ¬(s.seq.state ≠ .idle ∨ 0 < s.seq.plan.remaining))
include free

theorem tripRequest_held (k : CycleKind) (n : Byte) (held : s.held = true) : tripRequest k n s = s.refused .held := by
  rw [tripRequest, if_neg (mt s.cycleActive_iff.1 free), if_pos held]

variable (calm : s.held = false)
include calm

theorem tripRequest_badCount (k : CycleKind) (bad : n = 0#8 ∨ 160 < n.toNat) : tripRequest k n s = (badValue 1, s) := by
  have out : n.toNat = 0 ∨ 160 < n.toNat := bad.imp_left fun zero => by rw [zero]; rfl
  rw [tripRequest, if_neg (mt s.cycleActive_iff.1 free), if_neg (by simp [calm]), if_pos out]

variable (low : 0 < n.toNat) (high : n.toNat ≤ 160)
include low high

theorem tripRequest_clamped (none : s.inventory.clampTrip k n.toNat = 0) :
    tripRequest k n s = s.refused (s.inventory.tripRefusal k) := by
  rw [tripRequest, if_neg (mt s.cycleActive_iff.1 free), if_neg (by simp [calm]), if_neg (by omega)]
  exact if_pos none

theorem tripRequest_started {u : State} (some : 0 < s.inventory.clampTrip k n.toNat)
    (started : (s.planned ⟨k, s.inventory.clampTrip k n.toNat, false, false, none⟩).startCycle k = .ok u) :
    tripRequest k n s = (okWith (be 1 (s.inventory.clampTrip k n.toNat)), u.settle) := by
  rw [State.planned] at started
  rw [tripRequest, if_neg (mt s.cycleActive_iff.1 free), if_neg (by simp [calm]), if_neg (by omega)]
  dsimp only
  rw [if_neg (Nat.ne_of_gt some), started]

end

theorem Inventory.clampTrip_zero {v : Inventory} (n : Nat) (none : v.serviceableCount = 0 ∨ 160 ≤ v.string.length) :
    v.clampTrip .makeup n = 0 := by
  show min n (min v.serviceableCount (160 - v.string.length)) = 0
  omega

theorem Inventory.clampTrip_out_zero {v : Inventory} (n : Nat) (none : v.string = [] ∨ v.emptyCount = 0) :
    v.clampTrip .breakout n = 0 := by
  show min n (min v.emptyCount v.string.length) = 0
  rcases none with none | none <;> simp [none]

theorem resumeRequest_held (held : s.held = true) : resumeRequest s = s.refused .held := if_pos held

theorem resumeRequest_running (calm : s.held = false) (running : s.seq.plan.holdPause = false) :
    resumeRequest s = s.refused .badState := by
  rw [resumeRequest, if_neg (by simp [calm]), if_pos (by simp [running])]

section

variable (calm : s.held = false) (paused : s.seq.plan.holdPause = true)
include calm paused

theorem resumeRequest_working (working : s.seq.state ≠ .idle) :
    resumeRequest s = (okWith (be 1 s.seq.plan.remaining), s.planned s.seq.plan.resumed) := by
  rw [resumeRequest, if_neg (by simp [calm]), if_neg (by simp [paused])]
  exact if_neg working

theorem resumeRequest_idle (idle : s.seq.state = .idle) :
    resumeRequest s = match (s.planned s.seq.plan.resumed).startCycle s.seq.plan.kind with
      | .error code => s.refused code
      | .ok u => (okWith (be 1 s.seq.plan.remaining), u.settle) := by
  rw [resumeRequest, if_neg (by simp [calm]), if_neg (by simp [paused])]
  exact if_pos idle

end

theorem TripPlan.ended_same {p : TripPlan} (spent : p.remaining = 0) (fault : p.faultPause = false)
    (hold : p.holdPause = false) : p.ended = p := by
  obtain ⟨kind, remaining, faultPause, holdPause, endCause⟩ := p
  cases spent
  cases fault
  cases hold
  rfl

/-- The plan ended by STOP_TRIP. -/
def State.tripStopped (s : State) : State := s.planned s.seq.plan.ended

theorem State.tripStopped_same (spent : s.seq.plan.remaining = 0) (fault : s.seq.plan.faultPause = false)
    (hold : s.seq.plan.holdPause = false) : s.tripStopped = s := by
  rw [tripStopped, TripPlan.ended_same spent fault hold]
  rfl

theorem State.planNext_over (spent : s.seq.plan.remaining = 0) : s.planNext = s := if_pos spent

/-- A completion with no cycles left starts nothing. -/
theorem State.completeCycle_over (spent : s.seq.plan.remaining = 0) :
    s.completeCycle.seq.state = .idle ∧ s.completeCycle.seq.plan = s.seq.plan := by
  rw [completeCycle]
  rw [planNext_over (by cases s.seq.kind <;> exact spent)]
  cases s.seq.kind <;> exact ⟨rfl, rfl⟩

theorem State.station_of_acts {r : Role} (acts : s.acts r = true) : s.station ≠ none := by
  intro unset
  have unheld : s.holdsRole r = false := by
    rw [holdsRole, rolesHeld, Option.map_eq_none_iff.1 unset]
    cases r <;> rfl
  simp [State.acts, State.active, unheld] at acts

/-- SLIPS waits for its line. -/
theorem State.cycleBegun_settle (k : CycleKind) (unset : s.pins.slipsSet = false) :
    (s.cycleBegun k i).settle = s.cycleBegun k i :=
  State.settleSteps_of_taken 6 fun _ _ => unset

end

end Sys2Proof.Machine

namespace Sys2Proof

open Machine

/-- Settles O32: the rack searched in its ring, then the start conditions in their order. -/
theorem cyclesStart : Obligations.CyclesStart := by
  unfold Obligations.CyclesStart
  intro i r s acts
  dsimp only
  rw [exec_makeup acts, exec_breakout acts]
  refine ⟨fun busy => ⟨?_, ?_⟩, fun free held => ⟨?_, ?_⟩, fun free calm => ⟨fun none => ?_, fun any full => ?_,
    fun hit first room rod => ?_, fun empty => ?_, fun some full => ?_, fun top empty first => ?_⟩,
    fun k unset => State.cycleBegun_settle k unset, fun c group => ?_⟩
  · rw [cycleRequest_busy _ busy]
    rfl
  · rw [cycleRequest_busy _ busy]
    rfl
  · rw [cycleRequest_held _ free held]
    rfl
  · rw [cycleRequest_held _ free held]
    rfl
  · rw [cycleRequest_refused free calm (State.startCycle_rackEmpty (s.inventory.makeupSlot_none.2 none))]
    rfl
  · obtain ⟨j, slot⟩ : ∃ j, s.inventory.makeupSlot = some j :=
      Option.ne_none_iff_exists'.1 fun none => any.elim (s.inventory.makeupSlot_none.1 none)
    rw [cycleRequest_refused free calm (State.startCycle_stringFull slot full)]
    rfl
  · rw [cycleRequest_begun free calm (State.startCycle_makeup (Inventory.makeupSlot_first hit first) room),
      State.concernedRod, rod]
    rfl
  · rw [cycleRequest_refused free calm (State.startCycle_stringEmpty empty)]
    rfl
  · rw [cycleRequest_refused free calm (State.startCycle_rackFull some (s.inventory.storeSlot_none.2 full))]
    rfl
  · have some : s.inventory.string ≠ [] := fun empty => by simp [empty] at top
    rw [cycleRequest_begun free calm (State.startCycle_breakout some (Inventory.storeSlot_first empty first)),
      State.concernedRod, Inventory.topRod, top]
    · rfl
    · nofun
  · rw [State.stepLoad, group]

/-- Settles O33: the clamped count is 0 exactly on a refusal's condition, so a plan that is laid down starts. -/
theorem tripsStartAndResume : Obligations.TripsStartAndResume := by
  unfold Obligations.TripsStartAndResume
  intro n s acts
  dsimp only
  refine ⟨fun busy => ⟨?_, ?_⟩, fun free held => ⟨?_, ?_⟩, fun free calm => ⟨fun bad => ⟨?_, ?_⟩, fun low high =>
    ⟨fun none => ?_, fun rods full => ?_, fun count => ?_, fun none => ?_, fun some full => ?_, fun count => ?_⟩⟩,
    fun held => ?_, fun calm running => ?_, fun calm paused => ⟨fun working => ?_,
      fun idle kind => ⟨fun none => ?_, fun rods full => ?_, fun rods room => ?_⟩,
      fun idle kind => ⟨fun none => ?_, fun some full => ?_, fun some places => ?_⟩⟩⟩
  · rw [exec_tripIn n acts, tripRequest_busy _ _ busy]
    rfl
  · rw [exec_tripOut n acts, tripRequest_busy _ _ busy]
    rfl
  · rw [exec_tripIn n acts, tripRequest_held free _ _ held]
    rfl
  · rw [exec_tripOut n acts, tripRequest_held free _ _ held]
    rfl
  · rw [exec_tripIn n acts, tripRequest_badCount free calm _ bad]
    rfl
  · rw [exec_tripOut n acts, tripRequest_badCount free calm _ bad]
    rfl
  · rw [exec_tripIn n acts, tripRequest_clamped free calm low high (Inventory.clampTrip_zero _ (.inl none)), Inventory.tripRefusal, if_pos none]
    rfl
  · rw [exec_tripIn n acts, tripRequest_clamped free calm low high (Inventory.clampTrip_zero _ (.inr full)), Inventory.tripRefusal,
      if_neg (Nat.ne_of_gt rods)]
    rfl
  · obtain ⟨-, rods, room⟩ : _ ∧ 0 < s.inventory.serviceableCount ∧ 0 < 160 - s.inventory.string.length :=
      (Nat.lt_min.1 count).imp_right Nat.lt_min.1
    refine State.tripStarts_makeup rods (Nat.sub_pos_iff_lt.1 room) fun u started => ?_
    rw [exec_tripIn n acts, tripRequest_started (k := .makeup) free calm low high count started]
    rfl
  · rw [exec_tripOut n acts, tripRequest_clamped free calm low high (Inventory.clampTrip_out_zero _ (.inl none)), Inventory.tripRefusal,
      if_pos none]
    · rfl
    · nofun
  · rw [exec_tripOut n acts, tripRequest_clamped free calm low high (Inventory.clampTrip_out_zero _ (.inr full)), Inventory.tripRefusal,
      if_neg some]
    · rfl
    · nofun
  · obtain ⟨-, places, some⟩ : _ ∧ 0 < s.inventory.emptyCount ∧ 0 < s.inventory.string.length :=
      (Nat.lt_min.1 count).imp_right Nat.lt_min.1
    refine State.tripStarts_breakout places (List.length_pos_iff.1 some) fun u started => ?_
    rw [exec_tripOut n acts, tripRequest_started (k := .breakout) free calm low high count started]
    rfl
  · rw [exec_resume acts, resumeRequest_held held]
    rfl
  · rw [exec_resume acts, resumeRequest_running calm running]
    rfl
  · rw [exec_resume acts, resumeRequest_working calm paused working]
    rfl
  · rw [exec_resume acts, resumeRequest_idle calm paused idle, kind,
      State.startCycle_rackEmpty (s := s.planned s.seq.plan.resumed) (s.inventory.serviceableCount_zero.1 none)]
    rfl
  · obtain ⟨i, slot⟩ := Inventory.exists_makeupSlot rods
    rw [exec_resume acts, resumeRequest_idle calm paused idle, kind, State.startCycle_stringFull (s := s.planned s.seq.plan.resumed) slot full]
    rfl
  · refine State.tripStarts_makeup rods room (plan := s.seq.plan.resumed) fun u started => ?_
    rw [exec_resume acts, resumeRequest_idle calm paused idle, kind, started]
  · rw [exec_resume acts, resumeRequest_idle calm paused idle, kind, State.startCycle_stringEmpty (s := s.planned s.seq.plan.resumed) none]
    rfl
  · rw [exec_resume acts, resumeRequest_idle calm paused idle, kind,
      State.startCycle_rackFull (s := s.planned s.seq.plan.resumed) some (s.inventory.emptyCount_zero.1 full)]
    rfl
  · refine State.tripStarts_breakout places some (plan := s.seq.plan.resumed) fun u started => ?_
    rw [exec_resume acts, resumeRequest_idle calm paused idle, kind, started]

/-- Settles O34: STOP_TRIP as a request and as a directive, both by the one request function. -/
theorem stopTripEndsThePlan : Obligations.StopTripEndsThePlan := by
  unfold Obligations.StopTripEndsThePlan
  intro source s
  refine ⟨fun active state => ?_, fun acts => ?_, fun acts owns => ?_, State.tripStopped_same,
    State.completeCycle_over (s := s.tripStopped) rfl⟩
  · show answered _ (s.runningRequest .handler stopTripRequest) = _
    rw [State.runningRequest_badState _ active state]
    rfl
  · rw [exec_stopTrip acts]
    rfl
  · rw [State.routeDirective_taken (r := .handler) rfl nofun (State.station_of_acts acts) owns,
      State.carryOut_ok (c := .stopTrip) acts rfl]
    rfl

end Sys2Proof
end

section
/-! SUPPORT. Cycles that fault, go on or end, and rods in the transit position (chapter 5), for O35 and O36. -/

namespace Sys2Proof.Machine

theorem ReasonSet.empty_set_false (r : HoldReason) : ReasonSet.empty.set false r = .empty := by
  cases r <;> rfl

/-- A reason removed makes no held edge: nothing but the hold set, its frame and its cause changes. -/
theorem State.removeReason_eq (r : HoldReason) (s : State) :
    s.removeReason r = { s with
      holds := (s.removeReason r).holds, link := (s.removeReason r).link, causes := (s.removeReason r).causes } := by
  by_cases same : s.holds.reasons.set false r = s.holds.reasons
  · have kept : s.removeReason r = s := if_pos same
    rw [kept]
  · have held : s.held = true := State.held_of_reasons fun empty => same (by rw [empty, ReasonSet.empty_set_false])
    have changed := State.setReasons_held (s := s) same held
    rw [removeReason, changed]

theorem State.exists_removeReason (r : HoldReason) (s : State) :
    ∃ h k c, s.removeReason r = { s with holds := h, link := k, causes := c } := ⟨_, _, _, s.removeReason_eq r⟩

section

variable {s : State} {st : Step} {i : RackSlot}

theorem State.writeMarker_eq (step : s.seq.step = some st) (slot : s.seq.slot = some i) :
    s.writeMarker = { s with seq := { s.seq with
      marker := some ⟨s.seq.kind, st, s.seq.state, i, s.inventory.transit.map (·.id)⟩ } } := by
  rw [writeMarker, step, slot]

theorem State.enterStep_eq (next : Step) (slot : s.seq.slot = some i) :
    s.enterStep next = { s with seq := { s.seq with
      step := some next, timer := s.stepLoad
      lockedMark := if next = .breakJoint then false else s.seq.lockedMark
      marker := some ⟨s.seq.kind, next, s.seq.state, i, s.inventory.transit.map (·.id)⟩ } } :=
  State.writeMarker_eq rfl slot

/-- A cycle faulted: the marker rewritten, then STEP_TIMEOUT and HANDLING_FAULT (R77). -/
theorem State.cycleFault_eq (cause : FaultCause) (step : s.seq.step = some st) (slot : s.seq.slot = some i) :
    s.cycleFault cause = State.placeReason .handlingFault { s with
      seq := { s.seq with
        state := .faulted, fault := some cause
        marker := some ⟨s.seq.kind, st, .faulted, i, s.inventory.transit.map (·.id)⟩
        plan := { s.seq.plan with
          faultPause := s.seq.plan.faultPause || (decide (0 < s.seq.plan.remaining) && !s.seq.plan.holdPause) } }
      causes := s.causes ||| causeBit .stepTimeout } := by
  rw [cycleFault]
  dsimp only
  rw [State.writeMarker_eq (st := st) (i := i)]
  · rfl
  · exact step
  · exact slot

theorem exec_retryStep (acts : s.acts .handler = true) : exec .retryStep s = answered .retryStep (retryStepRequest s) := by
  show answered _ (s.runningRequest .handler _) = _
  rw [State.runningRequest_acting _ acts]

theorem exec_abort (acts : s.acts .handler = true) : exec .abort s = answered .abort (abortRequest s) := by
  show answered _ (s.runningRequest .handler _) = _
  rw [State.runningRequest_acting _ acts]

theorem exec_resolveTransit (destination slot : Byte) (acts : s.acts .handler = true) :
    exec (.resolveTransit destination slot) s =
      answered (.resolveTransit destination slot) (resolveTransitRequest destination slot s) := by
  show answered _ (s.runningRequest .handler _) = _
  rw [State.runningRequest_acting _ acts]

theorem exec_confirmRecovery (acts : s.acts .handler = true) :
    exec .confirmRecovery s = answered .confirmRecovery (confirmRecoveryRequest s) := by
  show answered _ (s.runningRequest .handler _) = _
  rw [State.runningRequest_acting _ acts]

theorem exec_stepTimerExpiry (s : State) : exec .stepTimerExpiry s = execStepTimerExpiry s := rfl

/-! ### RETRY_STEP and ABORT (R78, R79) -/

theorem retryStepRequest_sound (sound : s.seq.state ≠ .faulted) : retryStepRequest s = s.refused .badState := by
  rw [retryStepRequest]
  split
  case h_1 faulted _ => exact absurd faulted sound
  case h_2 => rfl

/-- The current step entered anew. -/
def State.retried (s : State) (st : Step) (i : RackSlot) : State :=
  { s.removeReason .handlingFault with seq := { s.seq with
      state := .active, fault := none, timer := s.stepLoad
      lockedMark := if st = .breakJoint then false else s.seq.lockedMark
      plan := s.seq.plan.retried (s.removeReason .handlingFault).held
      marker := some ⟨s.seq.kind, st, .active, i, s.inventory.transit.map (·.id)⟩ } }

theorem retryStepRequest_faulted (faulted : s.seq.state = .faulted) (step : s.seq.step = some st)
    (slot : s.seq.slot = some i) :
    retryStepRequest s = (okWith (codeByte stepTable (s.retried st i).settle.seq.step), (s.retried st i).settle) := by
  have entered : ({ s.removeReason .handlingFault with seq := { (s.removeReason .handlingFault).seq with
      state := .active, fault := none
      plan := (s.removeReason .handlingFault).seq.plan.retried (s.removeReason .handlingFault).held } } : State).enterStep st
      = s.retried st i := by
    rw [State.retried]
    obtain ⟨h, k, c, calm⟩ := s.exists_removeReason .handlingFault
    rw [calm, State.enterStep_eq (i := i)]
    · rw [← step]
      rfl
    · exact slot
  rw [retryStepRequest, faulted, step]
  dsimp only
  rw [entered]

theorem abortRequest_idle (idle : s.seq.state ≠ .active) (sound : s.seq.state ≠ .faulted) :
    abortRequest s = s.refused .badState := if_pos (by simp [idle, sound])

/-- The state on which ABORT ends the cycle: a fault's reason is removed first. -/
def State.calmed (s : State) : State := if s.seq.state = .faulted then s.removeReason .handlingFault else s

theorem State.exists_calmed (s : State) : ∃ h k c, s.calmed = { s with holds := h, link := k, causes := c } := by
  rw [calmed]
  split
  · exact s.exists_removeReason _
  · exact ⟨_, _, _, rfl⟩

theorem abortRequest_empty (going : s.seq.state = .active ∨ s.seq.state = .faulted) (empty : s.inventory.transit = none) :
    abortRequest s = (okWith ([0#8] ++ be 1 s.seq.plan.remaining),
      { s.calmed with seq := { s.seq with
          state := .idle, kind := .none, step := none, slot := none, fault := none, marker := none
          plan := s.seq.plan.ended } }) := by
  rw [abortRequest, if_neg (by rcases going with going | going <;> simp [going]), ← State.calmed]
  obtain ⟨h, k, c, calm⟩ := s.exists_calmed
  rw [calm]
  dsimp only
  rw [if_pos (by simp [empty])]
  change (okWith (codeByte seqStateTable .idle ++ be 1 s.seq.plan.remaining), _) = _
  rfl

theorem abortRequest_rod (going : s.seq.state = .active ∨ s.seq.state = .faulted) (step : s.seq.step = some st)
    (slot : s.seq.slot = some i) (rod : s.inventory.transit ≠ none) :
    abortRequest s = (okWith ([3#8] ++ be 1 s.seq.plan.remaining),
      { s.calmed with seq := { s.seq with
          state := .transitHeld, fault := none, plan := s.seq.plan.ended
          marker := some ⟨s.seq.kind, st, .transitHeld, i, s.inventory.transit.map (·.id)⟩ } }) := by
  rw [abortRequest, if_neg (by rcases going with going | going <;> simp [going]), ← State.calmed]
  obtain ⟨h, k, c, calm⟩ := s.exists_calmed
  rw [calm]
  dsimp only
  rw [if_neg (by simpa using rod), State.writeMarker_eq (st := st) (i := i)]
  · change (okWith (codeByte seqStateTable .transitHeld ++ be 1 s.seq.plan.remaining), _) = _
    rfl
  · exact step
  · exact slot

/-! ### The step timer and the breakout permit (R76, R85) -/

theorem State.stepTimerRuns_iff (acts : s.acts .handler = true) (step : s.seq.step = some st) :
    s.stepTimerRuns = true ↔
      s.seq.state = .active ∧ s.held = false ∧ (st ≠ .breakJoint ∨ s.breakoutPermit = true) := by
  simp [stepTimerRuns, acts, step, and_assoc]

theorem headAllowsBreak_iff (view : Option (Slot HeadAnnounce)) :
    headAllowsBreak view = true ↔ ∃ h, freshContent view = some h ∧
      (h.tracking = .tracking ∨ h.tracking = .resync ∨ h.onBottom = false) := by
  rw [headAllowsBreak]
  cases freshContent view <;> simp [or_assoc]

theorem State.breakoutPermit_iff (acts : s.acts .handler = true) :
    s.breakoutPermit = true ↔ s.seq.state = .active ∧ s.seq.step = some .breakJoint ∧ s.held = false ∧
      s.seq.lockedMark = true ∧ (∃ m, freshContent s.mudView = some m) ∧
      ∃ h, freshContent s.headView = some h ∧
        (h.tracking = .tracking ∨ h.tracking = .resync ∨ h.onBottom = false) := by
  simp only [breakoutPermit, acts, Bool.and_eq_true, Bool.true_and, beq_iff_eq, Bool.not_eq_true', headAllowsBreak_iff,
    Option.isSome_iff_exists, and_assoc]

/-! ### RESOLVE_TRANSIT and CONFIRM_RECOVERY (R80, R88) -/

theorem State.mayResolve_iff (s : State) :
    s.mayResolve = true ↔ s.seq.state = .transitHeld ∨ (s.seq.state = .recover ∧ s.inventory.transit ≠ none) := by
  simp [mayResolve, Option.isSome_iff_ne_none]

section

variable {destination slot : Byte} {r : Rod}

theorem resolveTransitRequest_closed (shut : ¬(s.seq.state = .transitHeld ∨ (s.seq.state = .recover ∧ s.inventory.transit ≠ none))) :
    resolveTransitRequest destination slot s = s.refused .badState :=
  if_pos (by simpa using mt s.mayResolve_iff.1 shut)

variable (may : s.seq.state = .transitHeld ∨ (s.seq.state = .recover ∧ s.inventory.transit ≠ none))
include may

theorem resolveTransitRequest_badDestination (bad : 2 ≤ destination.toNat) :
    resolveTransitRequest destination slot s = (badValue 1, s) := by
  rw [resolveTransitRequest, if_neg (by simpa using s.mayResolve_iff.2 may)]
  split
  case h_1 zero => omega
  case h_2 one => omega
  case h_3 => rfl

theorem resolveTransitRequest_badSlot (large : 60 ≤ slot.toNat) :
    resolveTransitRequest 0#8 slot s = (badValue 2, s) := by
  rw [resolveTransitRequest, if_neg (by simpa using s.mayResolve_iff.2 may)]
  show (match slotOf slot.toNat with | none => _ | some i => _) = _
  rw [slotOf_large large]

theorem resolveTransitRequest_slot (its : slot.toNat = i.val) :
    resolveTransitRequest 0#8 slot s = match s.inventory.store i with
      | .error code => s.refused code
      | .ok v => (placeReply 0 (some i) v, s.placed v) := by
  rw [resolveTransitRequest, if_neg (by simpa using s.mayResolve_iff.2 may)]
  rw [slotOf_val its]
  rfl

theorem resolveTransitRequest_top :
    resolveTransitRequest 1#8 slot s = match s.inventory.placeTop with
      | .error code => s.refused code
      | .ok v => (placeReply 1 none v, s.placed v) := by
  rw [resolveTransitRequest, if_neg (by simpa using s.mayResolve_iff.2 may)]
  rfl

end

end

section

variable {v : Inventory} {i : RackSlot} {r : Rod}

theorem Inventory.store_occupied (rod : v.transit ≠ none) (taken : v.rack[i] ≠ none) : v.store i = .error .slotOccupied := by
  obtain ⟨r, rod⟩ := Option.ne_none_iff_exists'.1 rod
  obtain ⟨q, taken⟩ := Option.ne_none_iff_exists'.1 taken
  rw [store, rod, taken]

theorem Inventory.store_rod (rod : v.transit = some r) (empty : v.rack[i] = none) :
    v.store i = .ok { v with rack := put v.rack i (some r), transit := none } := by
  rw [store, rod, empty]

theorem Inventory.placeTop_full (rod : v.transit = some r) (full : 160 ≤ v.string.length) :
    v.placeTop = .error .stringFull := by
  rw [placeTop, rod]
  exact if_neg (Nat.not_lt.2 full)

theorem Inventory.placeTop_rod (rod : v.transit = some r) (room : v.string.length < 160) :
    v.placeTop = .ok { v with string := v.string ++ [r], transit := none } := by
  rw [placeTop, rod]
  exact if_pos room

end

end Sys2Proof.Machine

namespace Sys2Proof

open Machine

/-- Settles O35: each request by the sequencer's state, over the equations of marker, step entry and fault. -/
theorem faultedCyclesGoOnOrEnd : Obligations.FaultedCyclesGoOnOrEnd := by
  unfold Obligations.FaultedCyclesGoOnOrEnd
  intro st i s acts
  dsimp only
  rw [exec_retryStep acts, exec_abort acts, exec_stepTimerExpiry, execStepTimerExpiry]
  refine ⟨fun sound => ?_, fun ⟨step, slot⟩ faulted => ?_, fun idle sound => ?_, fun _ going empty => ?_,
    fun ⟨step, slot⟩ going rod => ?_, fun ⟨step, slot⟩ runs last => ?_, fun still => ?_,
    fun ⟨step, _⟩ => State.stepTimerRuns_iff acts step, State.breakoutPermit_iff acts⟩
  · rw [retryStepRequest_sound sound]
    rfl
  · rw [retryStepRequest_faulted faulted step slot]
    rfl
  · rw [abortRequest_idle idle sound]
    rfl
  · rw [abortRequest_empty going empty]
    rfl
  · rw [abortRequest_rod going step slot rod]
    rfl
  · rw [if_pos ⟨runs, last⟩, State.cycleFault_eq (st := st) (i := i) .timeout]
    · exact step
    · exact slot
  · rw [if_neg]
    rintro ⟨runs, last⟩
    rcases still with still | left
    · simp [still] at runs
    · omega

/-- Settles O36: a rod placed is the move of R58 that its destination names. -/
theorem transitAndRecoveryAreResolved : Obligations.TransitAndRecoveryAreResolved := by
  unfold Obligations.TransitAndRecoveryAreResolved
  intro destination slot s acts
  dsimp only
  rw [exec_resolveTransit destination slot acts, exec_confirmRecovery acts]
  refine ⟨fun shut => ?_, fun may => ⟨fun bad => ?_, ?_, ?_, ?_⟩, fun other => ?_, fun recover rod => ?_,
    fun recover empty => ?_⟩
  · rw [resolveTransitRequest_closed shut]
    rfl
  · rw [resolveTransitRequest_badDestination may bad]
    rfl
  · rintro rfl large
    rw [resolveTransitRequest_badSlot may large]
    rfl
  · rintro i r rfl its rod
    rw [resolveTransitRequest_slot may its]
    refine ⟨fun taken => ?_, fun empty => ?_⟩
    · rw [Inventory.store_occupied (by simp [rod]) taken]
      rfl
    · rw [Inventory.store_rod rod empty]
      rfl
  · rintro r rfl rod
    rw [resolveTransitRequest_top may]
    refine ⟨fun full => ?_, fun room => ?_⟩
    · rw [Inventory.placeTop_full rod full]
      rfl
    · rw [Inventory.placeTop_rod rod room]
      rfl
  · rw [confirmRecoveryRequest, if_pos (by simpa using other)]
    rfl
  · rw [confirmRecoveryRequest, if_neg (by simp [recover]), if_pos (Option.isSome_iff_ne_none.2 rod)]
    rfl
  · rw [confirmRecoveryRequest, if_neg (by simp [recover]), if_neg (by simp [empty])]
    rfl

end Sys2Proof
end

section
/-! SUPPORT. How a step of the handling cycle ends (chapter 5), for O37. -/

namespace Sys2Proof.Machine

section

variable {s : State} {st next : Step} {i : RackSlot} {v : Inventory}

/-! ### Settling (R70) -/

theorem State.settle_still (still : s.acts .handler = false ∨ s.seq.state ≠ .active ∨ s.stepCondition = false) :
    s.settle = s := by
  refine State.settleSteps_of_taken 6 fun acts active => ?_
  rcases still with idle | other | unmet
  · simp [idle] at acts
  · exact absurd active other
  · exact unmet

theorem State.settle_due (acts : s.acts .handler = true) (active : s.seq.state = .active) (due : s.stepCondition = true) :
    s.settle = s.endStep.settleSteps 5 := by
  rw [settle, settleSteps, if_pos (by simp [acts, active, due])]

theorem State.stepCondition_iff (s : State) :
    s.stepCondition = true ↔
      (s.seq.step = some .slips ∧ s.pins.slipsSet = true) ∨
      (s.seq.step = some .breakJoint ∧ s.pins.jointFree = true ∧ s.breakoutPermit = true) ∨
      (s.seq.step = some .load ∧ s.pins.rodInLoader = true) ∨
      (s.seq.step = some .joint ∧ s.pins.jointMade = true) ∨
      (s.seq.step = some .lift ∧ s.pins.rodInLoader = true) ∨
      (s.seq.step = some .drive ∧ s.pins.handlerDrive = true) ∨
      (s.seq.step = some .store ∧ s.pins.rodStored = true) ∨
      (s.seq.step = some .release ∧ s.pins.slipsSet = false) := by
  unfold stepCondition
  rcases s.seq.step with _ | step
  · simp
  · cases step <;> simp

/-! ### Moves (R58) -/

theorem State.stepMove_load (slot : s.seq.slot = some i) : s.stepMove .load = s.inventory.pick i := by
  simp only [stepMove, slot]

theorem State.stepMove_store (slot : s.seq.slot = some i) : s.stepMove .store = s.inventory.store i := by
  simp only [stepMove, slot]

theorem State.stepMove_joint (s : State) : s.stepMove .joint = s.inventory.join s.wearLimit := rfl

theorem State.stepMove_lift (s : State) : s.stepMove .lift = s.inventory.lift := rfl

theorem Inventory.pick_empty (empty : v.rack[i] = none) : v.pick i = .error .slotEmpty := by
  rw [pick, empty]

theorem Inventory.pick_occupied (rod : v.rack[i] ≠ none) (held : v.transit ≠ none) :
    v.pick i = .error .transitOccupied := by
  obtain ⟨r, rod⟩ := Option.ne_none_iff_exists'.1 rod
  obtain ⟨q, held⟩ := Option.ne_none_iff_exists'.1 held
  rw [pick, rod, held]

theorem Inventory.pick_rod {r : Rod} (rod : v.rack[i] = some r) (free : v.transit = none) :
    v.pick i = .ok { v with rack := put v.rack i none, transit := some r } := by
  rw [pick, rod, free]

theorem Inventory.store_empty (empty : v.transit = none) : v.store i = .error .transitEmpty := by
  rw [store, empty]

theorem Inventory.join_empty (limit : Nat) (empty : v.transit = none) : v.join limit = .error .transitEmpty := by
  rw [join, empty]

theorem Inventory.join_full (limit : Nat) (rod : v.transit ≠ none) (full : 160 ≤ v.string.length) :
    v.join limit = .error .stringFull := by
  obtain ⟨r, rod⟩ := Option.ne_none_iff_exists'.1 rod
  rw [join, rod]
  exact if_neg (Nat.not_lt.2 full)

theorem Inventory.join_rod {r : Rod} (limit : Nat) (rod : v.transit = some r) (room : v.string.length < 160) :
    v.join limit = .ok { v with string := v.string ++ [r.joined limit], transit := none } := by
  rw [join, rod]
  exact if_pos room

theorem Inventory.lift_empty (empty : v.string = []) : v.lift = .error .stringEmpty := by
  rw [lift, empty]
  rfl

theorem Inventory.lift_occupied (some : v.string ≠ []) (held : v.transit ≠ none) : v.lift = .error .transitOccupied := by
  obtain ⟨q, held⟩ := Option.ne_none_iff_exists'.1 held
  rw [lift, List.getLast?_eq_some_getLast some, held]

theorem Inventory.lift_top {r : Rod} {below : List Rod} (top : v.string = below ++ [r]) (free : v.transit = none) :
    v.lift = .ok { v with
      string := below, transit := some r
      tally := if below = [] then 0 else v.tally
      adjusted := if below = [] then false else v.adjusted } := by
  rw [lift, top, List.getLast?_concat, free, List.dropLast_concat]
  dsimp only
  rw [settleTally]
  dsimp only
  split <;> rfl

/-! ### The step that follows, or the end of the cycle (R71, R72, R75) -/

theorem State.endStep_refused {code : Status} (step : s.seq.step = some st) (refused : s.stepMove st = .error code) :
    s.endStep = s.cycleFault (.moveRefused code) := by
  rw [endStep, step]
  dsimp only
  rw [refused]

theorem State.endStep_entered (onward : nextStep s.seq.kind st = some next) (step : s.seq.step = some st)
    (slot : s.seq.slot = some i) (move : s.stepMove st = .ok v) :
    s.endStep = { s with
      inventory := v
      seq := { s.seq with
        step := some next, timer := s.stepLoad
        lockedMark := if next = .breakJoint then false else s.seq.lockedMark
        marker := some ⟨s.seq.kind, next, s.seq.state, i, v.transit.map (·.id)⟩ } } := by
  rw [endStep, step]
  dsimp only
  rw [move]
  dsimp only
  rw [onward]
  exact State.enterStep_eq (s := { s with inventory := v }) next slot

/-- A completed cycle counted and cleared, the plan not yet taken on. -/
def Sequencer.completed (q : Sequencer) : Sequencer :=
  { q with
    state := .idle, kind := .none, step := none, slot := none, fault := none, marker := none
    makeups := if q.kind = .makeup then min 4294967295 (q.makeups + 1) else q.makeups
    breakouts := if q.kind = .breakout then min 4294967295 (q.breakouts + 1) else q.breakouts }

theorem State.completeCycle_eq (s : State) : s.completeCycle = ({ s with seq := s.seq.completed } : State).planNext := by
  rw [completeCycle, Sequencer.completed]
  cases s.seq.kind <;> rfl

theorem State.endStep_release (step : s.seq.step = some .release) :
    s.endStep = ({ s with seq := s.seq.completed } : State).planNext := by
  rw [endStep, step, ← State.completeCycle_eq]
  rfl

theorem State.planNext_last (last : s.seq.plan.remaining = 1) :
    s.planNext = { s with seq := { s.seq with plan := s.seq.plan.ended } } := by
  rw [planNext]
  exact (if_neg (by omega)).trans (if_pos last)

theorem State.planNext_paused (more : 1 < s.seq.plan.remaining) (pause : s.seq.plan.holdPause = true ∨ s.held = true) :
    s.planNext = { s with seq := { s.seq with
      plan := { s.seq.plan with remaining := s.seq.plan.remaining - 1, holdPause := true } } } := by
  rw [planNext]
  refine (if_neg (by omega)).trans ((if_neg (by omega)).trans (if_pos ?_))
  simpa using pause

/-- One cycle less to go. -/
def TripPlan.onward (p : TripPlan) : TripPlan := { p with remaining := p.remaining - 1 }

/-- The next cycle of a plan as it started, or the plan ended by the refusal of its start (R82). -/
def State.tookOn (s : State) : Except Status State → State
  | .ok u => u
  | .error code => s.planned { s.seq.plan.onward.ended with endCause := some code }

theorem State.planNext_starts (more : 1 < s.seq.plan.remaining) (going : s.seq.plan.holdPause = false)
    (calm : s.held = false) :
    s.planNext = s.tookOn ((s.planned s.seq.plan.onward).startCycle s.seq.plan.kind) := by
  rw [planNext]
  exact (if_neg (by omega)).trans ((if_neg (by omega)).trans (if_neg (by simp [going, calm])))

end

end Sys2Proof.Machine

namespace Sys2Proof

open Machine

/-- Settles O37: settling by the step's condition, each move by what it finds, each step by the one that follows. -/
theorem stepsEndOnTheirConditions : Obligations.StepsEndOnTheirConditions := by
  unfold Obligations.StepsEndOnTheirConditions
  intro input level i s
  dsimp only
  refine ⟨rfl, State.settle_still, State.settle_due, s.stepCondition_iff,
    fun r slot rod free _ => (State.stepMove_load slot).trans (Inventory.pick_rod rod free),
    fun r rod room _ => s.stepMove_joint.trans (Inventory.join_rod _ rod room),
    fun r below top free _ => s.stepMove_lift.trans (Inventory.lift_top top free),
    fun r slot rod empty _ => (State.stepMove_store slot).trans (Inventory.store_rod rod empty),
    fun c group => by rw [State.wearLimit, group],
    fun slot => ⟨fun empty _ => (State.stepMove_load slot).trans (Inventory.pick_empty empty),
      fun rod held _ => (State.stepMove_load slot).trans (Inventory.pick_occupied rod held),
      fun empty _ => (State.stepMove_store slot).trans (Inventory.store_empty empty),
      fun rod taken _ => (State.stepMove_store slot).trans (Inventory.store_occupied rod taken)⟩,
    fun empty _ => s.stepMove_joint.trans (Inventory.join_empty _ empty),
    fun rod full _ => s.stepMove_joint.trans (Inventory.join_full _ rod full),
    fun empty _ => s.stepMove_lift.trans (Inventory.lift_empty empty),
    fun some held _ => s.stepMove_lift.trans (Inventory.lift_occupied some held),
    fun st code step refused => State.endStep_refused step refused,
    State.endStep_entered rfl, fun kind v' => ?_, fun kind v' => ?_, fun step => ?_⟩
  · refine ⟨?_, ?_, ?_, ?_⟩ <;> exact State.endStep_entered (by rw [kind]; rfl)
  · refine ⟨?_, ?_, ?_, ?_⟩ <;> exact State.endStep_entered (by rw [kind]; rfl)
  · rw [State.endStep_release step]
    refine ⟨fun spent => State.planNext_over spent, fun last => State.planNext_last last,
      fun more pause => State.planNext_paused more pause, fun more going calm =>
        ⟨fun u started => ?_, fun code refused => ?_⟩⟩
    · exact (State.planNext_starts (s := { s with seq := s.seq.completed }) more going calm).trans
        (congrArg (State.tookOn { s with seq := s.seq.completed }) started)
    · exact (State.planNext_starts (s := { s with seq := s.seq.completed }) more going calm).trans
        (congrArg (State.tookOn { s with seq := s.seq.completed }) refused)

end Sys2Proof
end

section
/-! SUPPORT. What enters a pump state and what that does to circulation (R91 to R94, R98, R99), for O38 and O39. -/

namespace Sys2Proof.Machine

section

variable {s : State} {n : Pump} {b : Byte}

/-! ### Entering a pump state -/

/-- The circulation record with a pump's record in a new state. -/
def State.pumpSet (s : State) (n : Pump) (new : PumpState) : Circulation :=
  s.circ.setPump n ((s.circ.pump n).entered new)

theorem State.pumpSet_state (s : State) (n : Pump) (new : PumpState) : (s.pumpSet n new).state = s.circ.state :=
  Circulation.setPump_state _ _ _

theorem State.pumpTo_eq (n : Pump) (new : PumpState) (s : State) :
    s.pumpTo n new = { s with
      circ := (s.pumpSet n new).pumpEntered new
      causes := if new = .failed then s.causes ||| causeBit .pumpFailed else s.causes } := by
  cases new <;> rfl

theorem pumpReply_pumpTo (n : Pump) (new : PumpState) (s : State) :
    pumpReply n (s.pumpTo n new) = okWith (codeByte pumpStateTable new) := by
  rw [pumpReply, State.pumpTo_pump_state]

theorem Circulation.anyPump_iff (c : Circulation) (kind : PumpState → Bool) :
    c.anyPump kind = true ↔ kind c.pump1.state = true ∨ kind c.pump2.state = true := by
  rw [anyPump, Bool.or_eq_true]

theorem PumpState.permitted_iff (x : PumpState) : x.permitted = true ↔ x = .starting ∨ x = .running := by
  simp [PumpState.permitted]

/-- Some pump STOPPING. -/
theorem Circulation.anyStopping_iff (c : Circulation) :
    c.anyPump (· == .stopping) = true ↔ c.pump1.state = .stopping ∨ c.pump2.state = .stopping := by
  simp [anyPump]

theorem Circulation.anyPermitted_iff (c : Circulation) :
    c.anyPump PumpState.permitted = true ↔ c.pump1.state = .starting ∨ c.pump1.state = .running ∨
      c.pump2.state = .starting ∨ c.pump2.state = .running := by
  simp [anyPump_iff, PumpState.permitted_iff, or_assoc]

/-! ### What it does to the circulation state (R94, R98) -/

section

variable {c : Circulation} {new : PumpState}

theorem Circulation.pumpEntered_priming (state : c.state = .stopped) (starts : new = .starting) :
    c.pumpEntered new = { c with state := .priming } := by
  rw [pumpEntered, state]
  exact if_pos starts

theorem Circulation.pumpEntered_stopped (state : c.state = .stopped) (other : new ≠ .starting) : c.pumpEntered new = c := by
  rw [pumpEntered, state]
  exact if_neg other

theorem Circulation.pumpEntered_locked (state : c.state = .locked) : c.pumpEntered new = c := by
  rw [pumpEntered, state]

theorem Circulation.pumpEntered_flowing (state : c.state = .priming ∨ c.state = .circulating) :
    c.pumpEntered new = if c.anyPump PumpState.permitted then c
      else { c with state := .bleeding, bled := 0, absent := 0, returnsAbsent := false } := by
  rcases state with state | state <;> rw [pumpEntered, state]

theorem Circulation.pumpEntered_restart (state : c.state = .bleeding) (starts : new = .starting) :
    c.pumpEntered new = { c with state := .priming, bled := 0 } := by
  rw [pumpEntered, state]
  exact if_pos starts

theorem Circulation.pumpEntered_bleeding (state : c.state = .bleeding) (other : new ≠ .starting) :
    c.pumpEntered new = c.bledDown := by
  rw [pumpEntered, state]
  exact if_neg other

theorem Circulation.bledDown_ended (bled : c.bled = 2) (still : ¬(c.pump1.state = .stopping ∨ c.pump2.state = .stopping)) :
    c.bledDown = { c with state := .stopped } :=
  if_pos (by simpa [bled, ← c.anyStopping_iff] using still)

theorem Circulation.bledDown_waits (wait : c.bled ≠ 2 ∨ c.pump1.state = .stopping ∨ c.pump2.state = .stopping) :
    c.bledDown = c := by
  refine if_neg ?_
  rw [← c.anyStopping_iff] at wait
  rcases wait with wait | wait <;> simp [wait]

end

/-! ### Stopping, with its entry check (R91, R100) -/

theorem State.pumpStopping_waits (rises : s.pins.pumpRun n = true ∨ s.riseWaits n = true) :
    s.pumpStopping n = s.pumpTo n .stopping :=
  if_pos (by simpa using rises)

theorem State.pumpStopping_off (low : s.pins.pumpRun n = false) (still : ¬s.riseWaits n = true) :
    s.pumpStopping n = (s.pumpTo n .stopping).pumpTo n .off :=
  if_neg (by simp [low, still])

/-! ### START_PUMP and STOP_PUMP (R92, R93) -/

theorem pumpOf_pumpNumber (named : b = pumpNumber n) : pumpOf b.toNat = some n := by
  rw [named]
  cases n <;> rfl

theorem pumpOf_unnamed (one : b ≠ 1#8) (two : b ≠ 2#8) : pumpOf b.toNat = none := by
  unfold pumpOf
  split
  case h_1 number => exact absurd (BitVec.eq_of_toNat_eq number) one
  case h_2 number => exact absurd (BitVec.eq_of_toNat_eq number) two
  case h_3 => rfl

theorem State.handlerClosed_iff (s : State) :
    s.handlerClosed = true ↔ ∃ a, freshContent s.handlerView = some a ∧ a.stringOpen = false := by
  rw [handlerClosed]
  cases freshContent s.handlerView <;> simp

theorem State.suctionAllowsStart_iff (s : State) :
    s.suctionAllowsStart = true ↔
      ∃ c v, s.node.mud = some c ∧ s.suctionVolume = some v ∧ c.startWatermark ≤ v := by
  rw [suctionAllowsStart]
  cases s.node.mud <;> cases s.suctionVolume <;> simp

theorem exec_startPump (b : Byte) (acts : s.acts .mud = true) :
    exec (.startPump b) s = answered (.startPump b) (startPumpRequest b s) := by
  show answered _ (s.runningRequest .mud _) = _
  rw [State.runningRequest_acting _ acts]

theorem exec_stopPump (b : Byte) (acts : s.acts .mud = true) :
    exec (.stopPump b) s = answered (.stopPump b) (stopPumpRequest b s) := by
  show answered _ (s.runningRequest .mud _) = _
  rw [State.runningRequest_acting _ acts]

/-- The checks of START_PUMP in their order. -/
theorem startPumpRequest_eq (named : b = pumpNumber n) :
    startPumpRequest b s =
      if s.held then s.refused .held
      else if s.circ.state = .locked then s.refused .locked
      else if !s.handlerClosed then s.refused .handlerOpen
      else if !s.suctionAllowsStart then s.refused .suctionLow
      else if (s.circ.pump n).state ≠ .off ∨ s.pins.pumpRun n then s.refused .badState
      else (pumpReply n (s.pumpStarting n), s.pumpStarting n) := by
  rw [startPumpRequest, pumpOf_pumpNumber named]

theorem startPumpRequest_unnamed (one : b ≠ 1#8) (two : b ≠ 2#8) : startPumpRequest b s = (badValue 1, s) := by
  rw [startPumpRequest, pumpOf_unnamed one two]

theorem stopPumpRequest_unnamed (one : b ≠ 1#8) (two : b ≠ 2#8) : stopPumpRequest b s = (badValue 1, s) := by
  rw [stopPumpRequest, pumpOf_unnamed one two]

theorem stopPumpRequest_permitted (named : b = pumpNumber n)
    (permitted : (s.circ.pump n).state = .starting ∨ (s.circ.pump n).state = .running) :
    stopPumpRequest b s = (pumpReply n (s.pumpStopping n), s.pumpStopping n) := by
  rw [stopPumpRequest, pumpOf_pumpNumber named]
  dsimp only
  rcases permitted with state | state <;> rw [state]

theorem stopPumpRequest_failed (named : b = pumpNumber n) (failed : (s.circ.pump n).state = .failed) :
    stopPumpRequest b s = (pumpReply n (s.pumpTo n .off), s.pumpTo n .off) := by
  rw [stopPumpRequest, pumpOf_pumpNumber named]
  dsimp only
  rw [failed]

theorem stopPumpRequest_still (named : b = pumpNumber n)
    (still : (s.circ.pump n).state = .off ∨ (s.circ.pump n).state = .stopping) :
    stopPumpRequest b s = s.refused .badState := by
  rw [stopPumpRequest, pumpOf_pumpNumber named]
  dsimp only
  rcases still with state | state <;> rw [state]

theorem State.pumpStarting_low (low : s.pins.pumpRun n = false) : s.pumpStarting n = s.pumpTo n .starting :=
  if_neg (by simp [low])

/-! ### The running input and the pump timer (R91) -/

theorem exec_pumpRunningChange_unchanged {level : Level} (idle : s.acts .mud = false ∨ level = s.pins.pumpRun n) :
    exec (.pumpRunningChange n level) s = .next { s with pins := s.pins.setPumpRun n level } := by
  refine congrArg Host.Outcome.next (if_neg ?_)
  rcases idle with idle | same
  · simp [idle]
  · simp [same]

/-- A pump takes the state that its table names for a change of the running input, if it names one. -/
def State.pumpOnLine (s : State) (n : Pump) : Option PumpState → State
  | some new => s.pumpTo n new
  | none => s

theorem exec_pumpRunningChange_changed {level : Level} (acts : s.acts .mud = true) (change : level ≠ s.pins.pumpRun n) :
    exec (.pumpRunningChange n level) s = .next (({ s with pins := s.pins.setPumpRun n level } : State).pumpOnLine n
      (pumpOnInput (s.circ.pump n).state level)) := by
  refine congrArg Host.Outcome.next ((if_pos (by simp [acts, change])).trans ?_)
  cases pumpOnInput (s.circ.pump n).state level <;> rfl

theorem State.pumpTimerRuns_iff (s : State) (n : Pump) :
    s.pumpTimerRuns n = true ↔
      s.acts .mud = true ∧ ((s.circ.pump n).state = .starting ∨ (s.circ.pump n).state = .stopping) := by
  simp [pumpTimerRuns]

end

end Sys2Proof.Machine

namespace Sys2Proof

open Machine

/-- Settles O38: the checks of START_PUMP in order, and STOP_PUMP by the pump's state. -/
theorem pumpRequestsMoveThePump : Obligations.PumpRequestsMoveThePump := by
  unfold Obligations.PumpRequestsMoveThePump
  intro b n s acts
  dsimp only
  rw [exec_startPump b acts, exec_stopPump b acts, ← s.handlerClosed_iff, ← s.suctionAllowsStart_iff, ← s.riseWaits_iff]
  refine ⟨fun one two => ⟨?_, ?_⟩, fun named => ?_⟩
  · rw [startPumpRequest_unnamed one two]
    rfl
  · rw [stopPumpRequest_unnamed one two]
    rfl
  rw [startPumpRequest_eq named]
  refine ⟨fun held => ?_, fun calm locked => ?_, fun calm free shut => ?_, fun calm free closed empty => ?_,
    fun ⟨calm, free, closed, filled⟩ busy => ?_, fun ⟨calm, free, closed, filled⟩ off low => ?_,
    fun permitted rises => ?_, fun permitted low still => ?_, fun failed => ?_, fun still => ?_⟩
  · rw [if_pos held]
    rfl
  · rw [if_neg (by simp [calm]), if_pos locked]
    rfl
  · rw [if_neg (by simp [calm]), if_neg free, if_pos (by simpa using shut)]
    rfl
  · rw [if_neg (by simp [calm]), if_neg free, if_neg (by simp [closed]), if_pos (by simpa using empty)]
    rfl
  · rw [if_neg (by simp [calm]), if_neg free, if_neg (by simp [closed]), if_neg (by simp [filled]), if_pos busy]
    rfl
  · rw [if_neg (by simp [calm]), if_neg free, if_neg (by simp [closed]), if_neg (by simp [filled]),
      if_neg (by simp [off, low]), State.pumpStarting_low low, pumpReply_pumpTo]
    rfl
  · rw [stopPumpRequest_permitted named permitted, State.pumpStopping_waits rises, pumpReply_pumpTo]
    rfl
  · rw [stopPumpRequest_permitted named permitted, State.pumpStopping_off low still, pumpReply_pumpTo]
    rfl
  · rw [stopPumpRequest_failed named failed, pumpReply_pumpTo]
    rfl
  · rw [stopPumpRequest_still named still]
    rfl

/-- Settles O39: the pump table row by row, and the circulation state by its five cases. -/
theorem pumpEventsMoveThePump : Obligations.PumpEventsMoveThePump := by
  unfold Obligations.PumpEventsMoveThePump
  intro n level new s
  dsimp only
  rw [← s.riseWaits_iff]
  refine ⟨exec_pumpRunningChange_unchanged, fun acts change => ?_, fun acts running last => ?_, fun still => ?_, ?_⟩
  · rw [exec_pumpRunningChange_changed acts change]
    refine ⟨?_, ?_, ?_, ?_, ?_⟩
    · rintro off rfl
      rw [off]
      rfl
    · rintro starting rfl
      rw [starting]
      rfl
    · rintro running rfl
      rw [running]
      rfl
    · rintro stopping rfl
      rw [stopping]
      rfl
    · rintro (⟨state, rfl⟩ | ⟨state, rfl⟩ | ⟨state, rfl⟩ | ⟨state, rfl⟩ | state) <;> rw [state] <;> rfl
  · exact congrArg Host.Outcome.next (if_pos ⟨(s.pumpTimerRuns_iff n).2 ⟨acts, running⟩, last⟩)
  · refine congrArg Host.Outcome.next (if_neg ?_)
    rw [s.pumpTimerRuns_iff]
    rintro ⟨⟨acts, starting | stopping⟩, last⟩ <;> simp_all <;> omega
  · rw [State.pumpTo_eq]
    have record := s.pumpSet_state n new
    refine ⟨fun state starts => ?_, fun state other => ?_, fun state => ?_, fun state permitted => ?_,
      fun state none => ?_, fun state starts => ?_, fun state other bled still => ?_, fun state other wait => ?_,
      State.pumpStopping_waits, State.pumpStopping_off⟩
    · rw [Circulation.pumpEntered_priming (record.trans state) starts]
      rfl
    · rw [Circulation.pumpEntered_stopped (record.trans state) other]
      rfl
    · rw [Circulation.pumpEntered_locked (record.trans state)]
      rfl
    · rw [Circulation.pumpEntered_flowing (record ▸ state), if_pos ((s.pumpSet n new).anyPermitted_iff.2 permitted)]
      rfl
    · rw [Circulation.pumpEntered_flowing (record ▸ state), if_neg (mt (s.pumpSet n new).anyPermitted_iff.1 none)]
      rfl
    · rw [Circulation.pumpEntered_restart (record.trans state) starts]
      rfl
    · rw [Circulation.pumpEntered_bleeding (record.trans state) other, Circulation.bledDown_ended (c := s.pumpSet n new) bled still]
      rfl
    · rw [Circulation.pumpEntered_bleeding (record.trans state) other, Circulation.bledDown_waits (c := s.pumpSet n new) wait]
      rfl

end Sys2Proof
end

section
/-! SUPPORT. The other requests of circulation control, the MUD inputs and the suction watermark (chapter 6), for O40
and O41. -/

namespace Sys2Proof.Machine

section

variable {s : State}

/-! ### UNLOCK, CONFIRM_BLED, ADD_ADDITIVE (R96, R98, R103) -/

theorem lostTest_iff {α : Type} (view : Option (Slot α)) :
    lostTest view = false ↔ ∃ k, view = some k ∧ (k.freshness = .fresh ∨ k.freshness = .stale) := by
  rcases view with _ | k
  · simp [lostTest]
  · cases state : k.freshness <;> simp [lostTest, state]

theorem State.handlerHeard_iff (s : State) :
    lostTest s.handlerView = false ↔ ∃ st, s.owner .handler = some st ∧
      (s.peers[st].handler.freshness = .fresh ∨ s.peers[st].handler.freshness = .stale) := by
  rw [lostTest_iff, handlerView]
  cases s.owner .handler <;> simp

theorem exec_unlock (acts : s.acts .mud = true) : exec .unlock s = answered .unlock (unlockRequest s) := by
  show answered _ (s.runningRequest .mud _) = _
  rw [State.runningRequest_acting _ acts]

theorem exec_confirmBled (acts : s.acts .mud = true) : exec .confirmBled s = answered .confirmBled (confirmBledRequest s) := by
  show answered _ (s.runningRequest .mud _) = _
  rw [State.runningRequest_acting _ acts]

theorem exec_addAdditive (kind : Byte) (units : BitVec 16) (acts : s.acts .mud = true) :
    exec (.addAdditive kind units) s = answered (.addAdditive kind units) (addAdditiveRequest kind units s) := by
  show answered _ (s.runningRequest .mud _) = _
  rw [State.runningRequest_acting _ acts]

theorem addAdditiveRequest_badUnits {kind : Byte} {units : BitVec 16} (small : kind.toNat < 4)
    (bad : units = 0#16 ∨ 999 < units.toNat) : addAdditiveRequest kind units s = (badValue 2, s) := by
  rw [addAdditiveRequest, dif_pos small]
  exact if_pos (bad.imp_left fun zero => by rw [zero]; rfl)

theorem addAdditiveRequest_good {kind : Byte} {units : BitVec 16} {k : Fin 4} (its : kind.toNat = k.val)
    (some : 0 < units.toNat) (most : units.toNat ≤ 999) :
    addAdditiveRequest kind units s =
      (okWith (be 4 (min 4294967295 (s.circ.additives[k] + units.toNat))),
        { s with circ := { s.circ with
            additives := put s.circ.additives k (min 4294967295 (s.circ.additives[k] + units.toNat)) } }) := by
  have small : kind.toNat < 4 := its ▸ k.isLt
  obtain rfl : k = ⟨kind.toNat, small⟩ := Fin.ext its.symm
  rw [addAdditiveRequest, dif_pos small]
  exact if_neg (by omega)

/-! ### Pressure (R97, R98) -/

theorem exec_pressureSample {c : MudConfig} (valid : Bool) (value : BitVec 16) (acts : s.acts .mud = true)
    (group : s.node.mud = some c) :
    exec (.pressureSample valid value) s = .next { s with
      circ := (s.circ.pressed (valid && decide (value.toNat ≤ 40000)) value.toNat).bleedSample
        (valid && decide (value.toNat ≤ 40000) && decide (value.toNat ≤ c.bleedThreshold)) } := by
  refine congrArg Host.Outcome.next ((if_pos acts).trans ?_)
  rw [group]

section

variable (c : Circulation) (sound : Bool) (value : Nat)

theorem Circulation.pressed_eq (valid : Bool) :
    c.pressed (valid && decide (value ≤ 40000)) value =
      if valid = true ∧ value ≤ 40000 then { c with pressure := value, heldSamples := 0 }
      else { c with heldSamples := min 5 (c.heldSamples + 1) } := by
  simp only [pressed, Bool.and_eq_true, decide_eq_true_eq]

/-- A pressure sample by itself leaves the pumps, the circulation state and the bled count. -/
theorem Circulation.pressed_keeps :
    (c.pressed sound value).state = c.state ∧ (c.pressed sound value).bled = c.bled ∧
      (c.pressed sound value).pump1 = c.pump1 ∧ (c.pressed sound value).pump2 = c.pump2 := by
  rw [pressed]
  split <;> exact ⟨rfl, rfl, rfl, rfl⟩

end

section

variable {c : Circulation}

theorem Circulation.bleedSample_other (bled : Bool) (state : c.state ≠ .bleeding) : c.bleedSample bled = c := if_neg state

theorem Circulation.bleedSample_poor (state : c.state = .bleeding) : c.bleedSample false = { c with bled := 0 } :=
  (if_pos state).trans (Circulation.bledDown_waits (.inl (by simp)))

theorem Circulation.bleedSample_first (state : c.state = .bleeding) (first : c.bled = 0) :
    c.bleedSample true = { c with bled := 1 } := by
  refine (if_pos state).trans ?_
  rw [first]
  exact Circulation.bledDown_waits (.inl (by simp))

theorem Circulation.bleedSample_second (state : c.state = .bleeding) (second : 1 ≤ c.bled) :
    c.bleedSample true = ({ c with bled := 2 } : Circulation).bledDown := by
  refine (if_pos state).trans ?_
  rw [if_pos rfl, Nat.min_eq_left (by omega)]

end

theorem bledFlag_true {valid : Bool} {value threshold : Nat} (good : (valid = true ∧ value ≤ 40000) ∧ value ≤ threshold) :
    (valid && decide (value ≤ 40000) && decide (value ≤ threshold)) = true := by simpa using good

theorem bledFlag_false {valid : Bool} {value threshold : Nat}
    (poor : ¬((valid = true ∧ value ≤ 40000) ∧ value ≤ threshold)) :
    (valid && decide (value ≤ 40000) && decide (value ≤ threshold)) = false := by
  rw [← Bool.not_eq_true]
  simpa using poor

theorem not_rises {before after : Bool} (same : before = true ∨ after = false) : ¬(!before && after) = true := by
  rcases same with same | same <;> simp [same]

theorem rises {before after : Bool} (low : before = false) (high : after = true) : (!before && after) = true := by
  rw [low, high]
  rfl

/-! ### Suction (R100, R107) -/

/-- The pit record of a channel replaced. -/
def State.pitSet (s : State) (channel : Fin 4) (r : PitRecord) : State :=
  { s with bal := { s.bal with pits := put s.bal.pits channel r } }

theorem exec_pitLevelSample {c : MudConfig} {channel : Fin 4} {valid : Bool} {value : BitVec 16} {sampled : State}
    (acts : s.acts .mud = true) (group : s.node.mud = some c)
    (record : sampled = s.pitSet channel
      (s.bal.pits[channel].sampled (valid && decide (value.toNat ≤ 4000)) value.toNat)) :
    exec (.pitLevelSample channel valid value) s = .next (
      if channel.val < c.pits then if !s.suctionLow && sampled.suctionLow then sampled.lowSuction else sampled
      else s) := by
  rw [record]
  refine congrArg Host.Outcome.next ((if_pos acts).trans ?_)
  rw [group]
  rfl

theorem PitRecord.sampled_eq (r : PitRecord) (valid : Bool) (value : Nat) :
    r.sampled (valid && decide (value ≤ 4000)) value =
      if valid = true ∧ value ≤ 4000 then ⟨some value, false, r.holdEnded || r.held, r.inUse⟩
      else { r with held := true } := by
  simp only [sampled, Bool.and_eq_true, decide_eq_true_eq]

theorem State.pumpTo_pump_other (p : Pump) (new : PumpState) (s : State) :
    (s.pumpTo p new).circ.pump (Pump.other p) = s.circ.pump (Pump.other p) := by
  rw [pumpTo_circ, Circulation.pumpEntered_pump, Circulation.setPump_pump_other]

theorem State.pumpStopping_pump_other (p : Pump) (s : State) :
    (s.pumpStopping p).circ.pump (Pump.other p) = s.circ.pump (Pump.other p) := by
  rcases s.pumpStopping_cases p with stops | ⟨_, _, stops⟩
  · rw [stops, pumpTo_pump_other]
  · rw [stops, pumpTo_pump_other, pumpTo_pump_other]

/-- A pump stopped if the circulation record shows it STARTING or RUNNING. -/
def State.haltAs (s : State) (k : Circulation) (p : Pump) : State :=
  if (k.pump p).state = .starting ∨ (k.pump p).state = .running then s.pumpStopping p else s

theorem State.haltAs_congr {k k' : Circulation} {p : Pump} (s : State) (same : k.pump p = k'.pump p) :
    s.haltAs k p = s.haltAs k' p := by
  simp only [haltAs, same]

theorem State.pumpStopIfPermitted_eq (p : Pump) (s : State) : s.pumpStopIfPermitted p = s.haltAs s.circ p := by
  simp only [pumpStopIfPermitted, haltAs, PumpState.permitted_iff]

/-- The second pump is looked at as it stood before the first was stopped. -/
theorem State.lowSuction_eq (s : State) :
    s.lowSuction = ((s.raise .lowSuction).haltAs s.circ .one).haltAs s.circ .two := by
  rw [lowSuction, pumpStopIfPermitted_eq, pumpStopIfPermitted_eq]
  have other : ((s.raise .lowSuction).haltAs s.circ .one).circ.pump .two = s.circ.pump .two := by
    rw [haltAs]
    split
    · exact pumpStopping_pump_other .one _
    · rfl
  exact haltAs_congr _ other

theorem State.suctionVolume_eq {c : MudConfig} {i : Fin 4} (group : s.node.mud = some c) (pit : c.suctionPit = i.val + 1) :
    s.suctionVolume = (s.bal.pits[i].level).map (· * c.areas[i] / 10000) := by
  rw [suctionVolume, group]
  have index : c.suctionPit - 1 = i.val := by omega
  simp [index]

theorem State.suctionLow_unknown {c : MudConfig} {i : Fin 4} (group : s.node.mud = some c) (pit : c.suctionPit = i.val + 1)
    (unknown : s.bal.pits[i].level = none) : s.suctionLow = false := by
  rw [suctionLow, suctionVolume_eq group pit, unknown, group]
  rfl

theorem State.suctionLow_iff {c : MudConfig} {i : Fin 4} {h : Nat} (group : s.node.mud = some c)
    (pit : c.suctionPit = i.val + 1) (level : s.bal.pits[i].level = some h) :
    s.suctionLow = true ↔ h * c.areas[i] / 10000 < c.lowWatermark := by
  rw [suctionLow, suctionVolume_eq group pit, level, group]
  exact decide_eq_true_iff

/-- The lines and samples of the MUD role reach no block that does not act. -/
theorem exec_mudInput_idle {i : Instr} {o : State} (input : exec i s = .next (if s.acts .mud then o else s))
    (idle : s.acts .mud = false) : exec i s = .next s :=
  input.trans (congrArg Host.Outcome.next (if_neg (by simp [idle])))

end

end Sys2Proof.Machine

namespace Sys2Proof

open Machine

/-- Settles O40: each request by its refusals in order. -/
theorem circulationRequestsAreTaken : Obligations.CirculationRequestsAreTaken := by
  unfold Obligations.CirculationRequestsAreTaken
  intro kind units k s acts
  dsimp only
  rw [exec_unlock acts, exec_confirmBled acts, exec_addAdditive kind units acts, ← s.handlerHeard_iff,
    ← s.circ.anyStopping_iff]
  refine ⟨fun heard => ?_, fun lost free => ?_, fun lost locked => ?_, fun busy => ?_, fun bleeding still => ?_,
    fun large => ?_, fun small bad => ?_, fun its some most => ?_⟩
  · rw [unlockRequest, if_pos (by simp [heard])]
    rfl
  · rw [unlockRequest, if_neg (by simpa using lost), if_pos free]
    rfl
  · rw [unlockRequest, if_neg (by simpa using lost), if_neg (by simp [locked])]
    rfl
  · rw [confirmBledRequest, if_pos busy]
    rfl
  · rw [confirmBledRequest, if_neg (by simp [bleeding, still])]
    rfl
  · rw [addAdditiveRequest, dif_neg (by omega)]
    rfl
  · rw [addAdditiveRequest_badUnits small bad]
    rfl
  · rw [addAdditiveRequest_good its some most]
    rfl

/-- Settles O41: counts by their equations, the pressure by the bled count, a pit sample by the suction it leaves. -/
theorem mudInputsAreCounted : Obligations.MudInputsAreCounted := by
  unfold Obligations.MudInputsAreCounted
  intro n channel valid value s
  dsimp only
  refine ⟨fun idle => ?_, fun acts => ⟨?_, ?_, ?_, ?_⟩, fun c acts group => ?_⟩
  · simp only [List.forall_mem_cons, List.not_mem_nil, false_implies, implies_true, and_true]
    exact ⟨exec_mudInput_idle rfl idle, exec_mudInput_idle rfl idle, exec_mudInput_idle rfl idle,
      exec_mudInput_idle rfl idle, exec_mudInput_idle rfl idle⟩
  · exact congrArg Host.Outcome.next (if_pos acts)
  · exact congrArg Host.Outcome.next (if_pos acts)
  · exact congrArg Host.Outcome.next (if_pos acts)
  · exact congrArg Host.Outcome.next (if_pos acts)
  · have record := s.bal.pits[channel].sampled_eq valid value.toNat
    rw [exec_pressureSample valid value acts group,
      exec_pitLevelSample acts group (congrArg (s.pitSet channel) record.symm), ← s.circ.pressed_eq, ← s.circ.anyStopping_iff]
    obtain ⟨state, bled, one, two⟩ := s.circ.pressed_keeps (valid && decide (value.toNat ≤ 40000)) value.toNat
    refine ⟨fun other => ?_, fun bleeding poor => ?_, fun bleeding good first => ?_, fun bleeding good second stopping => ?_,
      fun bleeding good second still => ?_, fun outside => ?_, fun inside same => ?_, fun inside high low => ?_,
      fun i pit => ⟨fun unknown => State.suctionLow_unknown group pit unknown, fun h level => State.suctionLow_iff group pit level⟩⟩
    · rw [Circulation.bleedSample_other _ (fun bled => other (state.symm.trans bled))]
    · rw [bledFlag_false poor, Circulation.bleedSample_poor (state.trans bleeding)]
    · rw [bledFlag_true good, Circulation.bleedSample_first (state.trans bleeding) (bled.trans first)]
    · rw [bledFlag_true good, Circulation.bleedSample_second (state.trans bleeding) (bled.symm ▸ second),
        Circulation.bledDown_waits]
      simpa [one, two, s.circ.anyStopping_iff] using stopping
    · rw [bledFlag_true good, Circulation.bleedSample_second (state.trans bleeding) (bled.symm ▸ second),
        Circulation.bledDown_ended rfl]
      simpa [one, two, s.circ.anyStopping_iff] using still
    · rw [if_neg (Nat.not_lt.2 outside)]
    · rw [if_pos inside, if_neg]
      · rfl
      · exact not_rises same
    · rw [if_pos inside, if_pos, State.lowSuction_eq]
      · rfl
      · exact rises high low

end Sys2Proof
end

section
/-! SUPPORT. One balance period, field by field (R108 to R117), for O42. -/

namespace Sys2Proof.Machine

/-! ### A local reason placed (R43) -/

theorem State.placeReason_has {r : HoldReason} {s : State} (has : s.holds.reasons.has r = true) : s.placeReason r = s :=
  if_pos (by rw [← has, ReasonSet.set_has])

theorem State.placeReason_new {r : HoldReason} {s : State} (new : s.holds.reasons.has r = false) :
    s.placeReason r = { s with
      holds := { s.holds with reasons := s.holds.reasons.set true r }
      causes := s.causes ||| causeBit .holdChanged
      link := s.link.holdFramePlaced s.holds.reasons (s.holds.reasons.set true r)
      seq := if s.held then s.seq else s.heldEdge.seq } :=
  State.setReasons_holding (ReasonSet.set_ne_of_has new) (ReasonSet.set_true_ne_empty _ _)

theorem State.placeReason_causes (r : HoldReason) (s : State) :
    (s.placeReason r).causes = s.causes ||| if s.holds.reasons.has r then 0#32 else causeBit .holdChanged := by
  cases has : s.holds.reasons.has r
  · rw [placeReason_new has]
    rfl
  · rw [placeReason_has has]
    simp

/-- What a placed reason does to hold set, frame and sequencer depends on node, hold set, link and sequencer alone. -/
theorem State.placeReason_congr {s t : State} (r : HoldReason) (node : t.node = s.node) (holds : t.holds = s.holds)
    (link : t.link = s.link) (seq : t.seq = s.seq) :
    (t.placeReason r).holds = (s.placeReason r).holds ∧ (t.placeReason r).link = (s.placeReason r).link ∧
      (t.placeReason r).seq = (s.placeReason r).seq := by
  cases has : s.holds.reasons.has r
  · rw [placeReason_new has, placeReason_new (holds ▸ has), holds, link, seq, State.held_congr holds,
      State.heldEdge_seq_congr node seq]
    exact ⟨rfl, rfl, rfl⟩
  · rw [placeReason_has has, placeReason_has (holds ▸ has)]
    exact ⟨holds, link, seq⟩

/-! ### The stages (R109 to R113) -/

/-- What a pit contributes: nothing while its level is held or a hold has ended in the period. -/
def pitChange (r : PitRecord) (area : Nat) : Int :=
  if r.held = true ∨ r.holdEnded = true then 0 else ((r.level.getD 0 : Int) - (r.inUse.getD 0 : Int)) * area

theorem PitRecord.atExpiry_change (r : PitRecord) (area : Nat) : (r.atExpiry area).change = pitChange r area := by
  rw [atExpiry, pitChange]
  cases r.held <;> cases r.holdEnded <;> rfl

theorem PitRecord.atExpiry_degraded (r : PitRecord) (area : Nat) : (r.atExpiry area).degraded = (r.held || r.holdEnded) := by
  rw [atExpiry]
  cases r.held <;> cases r.holdEnded <;> rfl

theorem PitRecord.atExpiry_record (r : PitRecord) (area : Nat) :
    (r.atExpiry area).record = if r.held = false then { r with holdEnded := false, inUse := r.level } else r := by
  obtain ⟨level, held, holdEnded, inUse⟩ := r
  cases held <;> cases holdEnded <;> rfl

theorem MudConfig.mem_activePits (c : MudConfig) (i : Fin 4) : i ∈ c.activePits ↔ i.val < c.pits := by
  simp [activePits]

/-- The HEAD content a period counts with: none while the depth was held or the owner has changed (R110). -/
def Balance.usedView (b : Balance) (owner : Option Station) (view : Option HeadAnnounce) : Option HeadAnnounce :=
  if b.depthHeld = true ∨ b.prevOwner ≠ owner then none else view

section

variable (b : Balance) (c : MudConfig) (owner : Option Station) (view : Option HeadAnnounce)

theorem Balance.depthStage_skipped (a : HeadAnnounce) (skipped : b.depthHeld = true ∨ b.prevOwner ≠ owner) :
    b.depthStage owner (some a) = ⟨0, 0, true, a.d.toNat, a.dmax.toNat, false, owner⟩ :=
  if_pos (by simpa using skipped)

theorem Balance.depthStage_used (a : HeadAnnounce) (used : ¬(b.depthHeld = true ∨ b.prevOwner ≠ owner)) :
    b.depthStage owner (some a) = ⟨(a.d.toNat : Int) - b.prevD,
      if b.prevH ≤ a.dmax.toNat then (a.dmax.toNat : Int) - b.prevH else 0, false, a.d.toNat, a.dmax.toNat, false, owner⟩ :=
  if_neg (by simpa using used)

theorem Balance.depthStage_changes :
    (b.depthStage owner view).steel = ((b.usedView owner view).map fun a => (a.d.toNat : Int) - b.prevD).getD 0 ∧
    (b.depthStage owner view).hole = ((b.usedView owner view).map fun a => ((a.dmax.toNat - b.prevH : Nat) : Int)).getD 0 ∧
    ((b.depthStage owner view).degraded = true ↔ b.usedView owner view = none) := by
  rcases view with _ | a
  · have none : b.usedView owner none = none := by rw [usedView, ite_self]
    rw [none]
    exact ⟨rfl, rfl, iff_of_true rfl rfl⟩
  · by_cases skipped : b.depthHeld = true ∨ b.prevOwner ≠ owner
    · rw [b.depthStage_skipped owner a skipped, usedView, if_pos skipped]
      exact ⟨rfl, rfl, iff_of_true rfl rfl⟩
    · rw [b.depthStage_used owner a skipped, usedView, if_neg skipped]
      refine ⟨rfl, ?_, iff_of_false Bool.false_ne_true nofun⟩
      show (if b.prevH ≤ a.dmax.toNat then (a.dmax.toNat : Int) - b.prevH else 0) = ((a.dmax.toNat - b.prevH : Nat) : Int)
      split <;> omega

theorem Balance.depthStage_records :
    (∀ a, view = some a → (b.depthStage owner view).prevD = a.d.toNat ∧ (b.depthStage owner view).prevH = a.dmax.toNat ∧
      (b.depthStage owner view).held = false ∧ (b.depthStage owner view).owner = owner) ∧
    (view = none → (b.depthStage owner view).prevD = b.prevD ∧ (b.depthStage owner view).prevH = b.prevH ∧
      (b.depthStage owner view).owner = b.prevOwner ∧ (b.depthStage owner view).held = true) := by
  refine ⟨?_, ?_⟩
  · rintro a rfl
    by_cases skipped : b.depthHeld = true ∨ b.prevOwner ≠ owner
    · rw [b.depthStage_skipped owner a skipped]
      exact ⟨rfl, rfl, rfl, rfl⟩
    · rw [b.depthStage_used owner a skipped]
      exact ⟨rfl, rfl, rfl, rfl⟩
  · rintro rfl
    exact ⟨rfl, rfl, rfl, rfl⟩

/-- The steel volume of a period and its residue. -/
def Balance.steelStage : Int × Int := volumeWithResidue (b.depthStage owner view).steel c.steel b.steelResidue

/-- The hole volume of a period and its residue. -/
def Balance.holeStage : Int × Int := volumeWithResidue (b.depthStage owner view).hole c.hole b.holeResidue

/-- The imbalance of a period before it is saturated (R113). -/
def Balance.exactImbalance : Int :=
  ((pitStages c b.pits).map (·.change)).sum - ((b.water * c.waterFactor * 10 : Nat) : Int) -
    (b.steelStage c owner view).1 + (b.holeStage c owner view).1

/-- The imbalance of a period (R113). -/
def Balance.imbalance : Int := clampInt Config.imbalanceLimit (b.exactImbalance c owner view)

/-- The period is marked degraded (R114). -/
def Balance.degrades : Bool := (pitStages c b.pits).any (·.degraded) || (b.depthStage owner view).degraded

theorem Balance.degrades_iff : b.degrades c owner view = true ↔
    (∃ i ∈ c.activePits, b.pits[i].held = true ∨ b.pits[i].holdEnded = true) ∨ b.usedView owner view = none := by
  rw [degrades, Bool.or_eq_true, (b.depthStage_changes owner view).2.2, pitStages, List.any_map, List.any_eq_true]
  simp [PitRecord.atExpiry_degraded]

theorem pitStages_change (pits : Vector PitRecord 4) :
    ((pitStages c pits).map (·.change)).sum = (c.activePits.map fun i => pitChange pits[i] c.areas[i]).sum := by
  rw [pitStages, List.map_map]
  exact congrArg List.sum (List.map_congr_left fun i _ => PitRecord.atExpiry_change _ _)

theorem pitsAfter_get (pits : Vector PitRecord 4) (i : Fin 4) :
    (pitsAfter c pits)[i] = if i ∈ c.activePits ∧ pits[i].held = false then
      { pits[i] with holdEnded := false, inUse := pits[i].level } else pits[i] := by
  have record : (pitsAfter c pits)[i] = if i.val < c.pits then (pits[i].atExpiry c.areas[i]).record else pits[i] := by
    simp [pitsAfter]
  rw [record, PitRecord.atExpiry_record]
  by_cases active : i.val < c.pits
  · simp only [c.mem_activePits, active, if_true, true_and]
  · simp only [c.mem_activePits, active, if_false, false_and]

/-! ### The condition and the totals (R115, R117) -/

/-- The underlying condition after a judgement: kept while eight slots or more are marked. -/
def Balance.judgement : BalanceCondition :=
  if 8 ≤ b.degradedCount then b.underlying else judgeCondition c b.sum b.underlying

theorem Balance.judged_eq : b.judged c = { b with
    underlying := b.judgement c
    announced := if 8 ≤ b.degradedCount then .degraded else b.judgement c } := by
  rw [judged, judgement]
  (repeat' split) <;> rfl

theorem Balance.totalled_eq (deadband : Nat) (e : Int) : b.totalled deadband e = { b with
    gainTotal := if (deadband : Int) * 10 < e then min 42949672959 (b.gainTotal + e.natAbs) else b.gainTotal
    lossTotal := if e < -((deadband : Int) * 10) then min 42949672959 (b.lossTotal + e.natAbs) else b.lossTotal } := by
  rw [totalled]
  by_cases small : e.natAbs ≤ deadband * 10
  · rw [if_pos small, if_neg (by omega), if_neg (by omega)]
  · rw [if_neg small]
    by_cases gain : 0 < e
    · rw [if_pos gain, if_pos (by omega), if_neg (by omega)]
      rfl
    · rw [if_neg gain, if_neg (by omega), if_pos (by omega)]
      rfl

/-- The balance unit with a period's imbalance written into its window, not yet judged. -/
def Balance.written : Balance :=
  Balance.pushed { b with
      pits := pitsAfter c b.pits, prevD := (b.depthStage owner view).prevD, prevH := (b.depthStage owner view).prevH
      depthHeld := (b.depthStage owner view).held, prevOwner := (b.depthStage owner view).owner
      steelResidue := (b.steelStage c owner view).2, holeResidue := (b.holeStage c owner view).2, water := 0
      last := b.imbalance c owner view
      lastSaturated := b.imbalance c owner view != b.exactImbalance c owner view }
    (b.imbalance c owner view) (b.degrades c owner view)

theorem Balance.period_eq : b.period c owner view = { b.written c owner view with
    underlying := (b.written c owner view).judgement c
    announced := if 8 ≤ (b.written c owner view).degradedCount then .degraded else (b.written c owner view).judgement c
    gainTotal := if (c.deadband : Int) * 10 < b.imbalance c owner view then
      min 42949672959 (b.gainTotal + (b.imbalance c owner view).natAbs) else b.gainTotal
    lossTotal := if b.imbalance c owner view < -((c.deadband : Int) * 10) then
      min 42949672959 (b.lossTotal + (b.imbalance c owner view).natAbs) else b.lossTotal } := by
  show ((b.written c owner view).judged c).totalled c.deadband (b.imbalance c owner view) = _
  rw [totalled_eq, judged_eq]
  rfl

end

end Sys2Proof.Machine
end

section
/-! SUPPORT. The expiry of a balance period as a whole (R99, R101, R108, R116), for O42. -/

namespace Sys2Proof.Machine

theorem State.raiseIf_or (b : Bool) (cause : Cause) (s : State) :
    (s.raiseIf b cause).causes = s.causes ||| if b then causeBit cause else 0#32 := by
  cases b <;> simp [State.raiseIf, State.raise]

/-! ### Returns (R99) -/

section

variable (k : Circulation) (threshold : Nat)

theorem Circulation.judgeReturns_primed (state : k.state = .priming) (enough : threshold ≤ k.returns) :
    k.judgeReturns threshold = { k with state := .circulating, absent := 0 } := by
  rw [judgeReturns, state, decide_eq_true enough]

theorem Circulation.judgeReturns_back (state : k.state = .circulating) (enough : threshold ≤ k.returns) :
    k.judgeReturns threshold = { k with absent := 0, returnsAbsent := false } := by
  rw [judgeReturns, state, decide_eq_true enough]

theorem Circulation.judgeReturns_absent (state : k.state = .circulating) (few : k.returns < threshold) :
    k.judgeReturns threshold = { k with
      absent := min 5 (k.absent + 1), returnsAbsent := k.returnsAbsent || decide (4 ≤ k.absent) } := by
  rw [judgeReturns, state, decide_eq_false (Nat.not_le.2 few)]

theorem Circulation.judgeReturns_same
    (still : k.state = .priming ∧ k.returns < threshold ∨ k.state = .stopped ∨ k.state = .locked ∨ k.state = .bleeding) :
    k.judgeReturns threshold = k := by
  rcases still with ⟨state, few⟩ | state | state | state
  · rw [judgeReturns, state, decide_eq_false (Nat.not_le.2 few)]
  all_goals
    rw [judgeReturns, state]

/-- Judging the returns touches state, absent count and absent flag alone. -/
theorem Circulation.judgeReturns_eq : k.judgeReturns threshold = { k with
    state := (k.judgeReturns threshold).state, absent := (k.judgeReturns threshold).absent
    returnsAbsent := (k.judgeReturns threshold).returnsAbsent } := by
  rw [judgeReturns]
  cases k.state <;> cases decide (threshold ≤ k.returns) <;> rfl

end

section

variable (c : MudConfig) (s : State)

theorem State.circulationPeriod_bal : (s.circulationPeriod c).bal = s.bal := by simp

theorem State.circulationPeriod_circ : (s.circulationPeriod c).circ = { s.circ.judgeReturns c.returnsThreshold with
    flowIn := c.flowIn s.circ.strokes1 s.circ.strokes2, returns := 0, strokes1 := 0, strokes2 := 0 } := by
  simp [circulationPeriod]

theorem State.circulationPeriod_causes : (s.circulationPeriod c).causes = s.causes |||
    if (s.circulationPeriod c).circ.returnsAbsent = true ∧ s.circ.returnsAbsent = false then causeBit .returnsAbsent
    else 0#32 := by
  rw [circulationPeriod_circ, circulationPeriod, State.raiseIf_or]
  simp only [Bool.and_eq_true, Bool.not_eq_true']

/-! ### The condition entered (R115, R116) -/

theorem Balance.entered_iff (old new : Balance) :
    old.entered new = true ↔ new.underlying ≠ old.underlying ∧ new.underlying ≠ .normal := by
  simp [entered]

theorem Balance.gainEntered_iff (old new : Balance) :
    (old.entered new && new.underlying == .gain) = true ↔ new.underlying = .gain ∧ old.underlying ≠ .gain := by
  rw [Bool.and_eq_true, entered_iff, beq_iff_eq]
  constructor
  · rintro ⟨⟨change, -⟩, gain⟩
    exact ⟨gain, fun same => change (gain.trans same.symm)⟩
  · rintro ⟨gain, other⟩
    exact ⟨⟨fun same => other (same.symm.trans gain), by simp [gain]⟩, gain⟩

theorem State.balancePeriod_holds : (s.balancePeriod c).holds = (if (s.balancePeriod c).bal.underlying = .gain ∧
      s.bal.underlying ≠ .gain then s.placeReason .flowGain else s).holds ∧
    (s.balancePeriod c).link = (if (s.balancePeriod c).bal.underlying = .gain ∧
      s.bal.underlying ≠ .gain then s.placeReason .flowGain else s).link ∧
    (s.balancePeriod c).seq = (if (s.balancePeriod c).bal.underlying = .gain ∧
      s.bal.underlying ≠ .gain then s.placeReason .flowGain else s).seq := by
  simp only [balancePeriod_bal, ← Balance.gainEntered_iff]
  rw [balancePeriod]
  split
  · exact State.placeReason_congr .flowGain (by simp) (by simp) (by simp) (by simp)
  · simp

theorem State.balancePeriod_causes : (s.balancePeriod c).causes = s.causes |||
    (if (s.balancePeriod c).bal.underlying ≠ s.bal.underlying ∧ (s.balancePeriod c).bal.underlying ≠ .normal then
      causeBit .balanceAlarm else 0#32) |||
    (if (s.balancePeriod c).bal.underlying = .gain ∧ s.bal.underlying ≠ .gain ∧ s.holds.reasons.flowGain = false then
      causeBit .holdChanged else 0#32) := by
  simp only [balancePeriod_bal, ← Balance.entered_iff, ← and_assoc, ← Balance.gainEntered_iff]
  rw [balancePeriod]
  split
  case isTrue gain =>
    rw [placeReason_causes, raiseIf_or]
    simp only [raiseIf_frame, gain, true_and, ReasonSet.has]
    cases s.holds.reasons.flowGain <;> rfl
  case isFalse other =>
    simp only [raiseIf_or, other, Bool.false_eq_true, false_and, if_false, BitVec.or_zero]

/-- The state after the expiry of a balance period. -/
def State.balanceExpired : State :=
  (({ s with timers := { s.timers with balance := some (s.now + 250000) } } : State).circulationPeriod c).balancePeriod c

theorem State.balanceExpired_bal :
    (s.balanceExpired c).bal = s.bal.period c (s.owner .head) (freshContent s.headView) := by
  simp [balanceExpired, State.owner, State.headView]

theorem State.balanceExpired_circ : (s.balanceExpired c).circ = { s.circ.judgeReturns c.returnsThreshold with
    flowIn := c.flowIn s.circ.strokes1 s.circ.strokes2, returns := 0, strokes1 := 0, strokes2 := 0 } := by
  simp [balanceExpired, circulationPeriod_circ]

theorem State.balanceExpired_causes : (s.balanceExpired c).causes = s.causes |||
    (if (s.balanceExpired c).circ.returnsAbsent = true ∧ s.circ.returnsAbsent = false then causeBit .returnsAbsent
      else 0#32) |||
    (if (s.balanceExpired c).bal.underlying ≠ s.bal.underlying ∧ (s.balanceExpired c).bal.underlying ≠ .normal then
      causeBit .balanceAlarm else 0#32) |||
    (if (s.balanceExpired c).bal.underlying = .gain ∧ s.bal.underlying ≠ .gain ∧ s.holds.reasons.flowGain = false then
      causeBit .holdChanged else 0#32) := by
  rw [balanceExpired, balancePeriod_causes, circulationPeriod_causes]
  simp

theorem State.balanceExpired_holds :
    (s.balanceExpired c).holds = (if (s.balanceExpired c).bal.underlying = .gain ∧
      s.bal.underlying ≠ .gain then s.placeReason .flowGain else s).holds ∧
    (s.balanceExpired c).link = (if (s.balanceExpired c).bal.underlying = .gain ∧
      s.bal.underlying ≠ .gain then s.placeReason .flowGain else s).link ∧
    (s.balanceExpired c).seq = (if (s.balanceExpired c).bal.underlying = .gain ∧
      s.bal.underlying ≠ .gain then s.placeReason .flowGain else s).seq := by
  obtain ⟨holds, link, seq⟩ := State.balancePeriod_holds c
    (({ s with timers := { s.timers with balance := some (s.now + 250000) } } : State).circulationPeriod c)
  obtain ⟨sameHolds, sameLink, sameSeq⟩ := State.placeReason_congr (s := s)
    (t := ({ s with timers := { s.timers with balance := some (s.now + 250000) } } : State).circulationPeriod c)
    .flowGain (by simp) (by simp) (by simp) (by simp)
  rw [balanceExpired, holds, link, seq, State.circulationPeriod_bal]
  split
  · exact ⟨sameHolds, sameLink, sameSeq⟩
  · simp

theorem exec_balancePeriodExpiry {c : MudConfig} {s : State} (acts : s.acts .mud = true) (group : s.node.mud = some c) :
    exec .balancePeriodExpiry s = .next (s.balanceExpired c) := by
  refine congrArg Host.Outcome.next ((if_pos acts).trans ?_)
  rw [group]
  rfl

end

/-! ### The judgement against a sum (R115) -/

theorem judgeCondition_spec (c : MudConfig) (sum : Int) :
    judgeCondition c sum .normal = (if sum ≤ -((c.lossThreshold : Int) * 10000) then .loss
      else if (c.gainThreshold : Int) * 10000 ≤ sum then .gain else .normal) ∧
    judgeCondition c sum .loss = (if (c.gainThreshold : Int) * 10000 ≤ sum then .gain
      else if 2 * sum.natAbs < c.lossThreshold * 10000 then .normal else .loss) ∧
    judgeCondition c sum .gain = (if sum ≤ -((c.lossThreshold : Int) * 10000) then .loss
      else if 2 * sum.natAbs < c.gainThreshold * 10000 then .normal else .gain) := by
  have half (n : Nat) : sum.natAbs < n * 5000 ↔ 2 * sum.natAbs < n * 10000 := by omega
  have scaled (n : Nat) : ((n * 10000 : Nat) : Int) = (n : Int) * 10000 := Int.natCast_mul n 10000
  simp only [judgeCondition, decide_eq_true_eq, half, scaled, and_self]

theorem clampInt_eq (v : Int) : clampInt Config.imbalanceLimit v =
    if 2000000000 < v then 2000000000 else if v < -2000000000 then -2000000000 else v := by
  show max (-2000000000) (min 2000000000 v) = _
  omega

end Sys2Proof.Machine

namespace Sys2Proof

open Machine

/-- Settles O42: circulation's part and the balance unit's, each by its equation. -/
theorem balancePeriodsAreComputed : Obligations.BalancePeriodsAreComputed := by
  unfold Obligations.BalancePeriodsAreComputed
  intro c s group b view active lost change used depthChange holeChange nSteel nHole water total e
  obtain ⟨steel, hole, degrades⟩ := b.depthStage_changes (s.owner .head) view
  obtain ⟨heard, unheard⟩ := b.depthStage_records (s.owner .head) view
  have total_eq : b.exactImbalance c (s.owner .head) view = total := by
    rw [Balance.exactImbalance, pitStages_change, Balance.steelStage, Balance.holeStage, steel, hole]
    push_cast
    rfl
  have e_eq : b.imbalance c (s.owner .head) view = e := by
    rw [Balance.imbalance, total_eq, clampInt_eq]
  refine ⟨fun idle => congrArg Host.Outcome.next (if_neg (by simp [idle])), fun acts =>
    ⟨_, exec_balancePeriodExpiry acts group, ?_⟩, fun sum => judgeCondition_spec c sum⟩
  have bal := (s.balanceExpired_bal c).trans (b.period_eq c (s.owner .head) view)
  have circ := s.balanceExpired_circ c
  have marks : (s.balanceExpired c).bal.degradedCount = (b.written c (s.owner .head) view).degradedCount :=
    (congrArg Balance.degradedCount bal).trans rfl
  refine ⟨?_, congrArg (·.flowIn) circ, congrArg (·.returns) circ, congrArg (·.strokes1) circ, congrArg (·.strokes2) circ,
    fun state enough => ?_, fun state enough => ?_, fun state few => ?_, fun still => ?_,
    (congrArg (·.last) bal).trans e_eq, ?_, ?_, congrArg (·.position) bal, ?_, ?_, ?_, congrArg (·.water) bal,
    fun a fresh => ?_, fun stale => ?_, fun i => ?_, fun many => ?_, fun few => ?_, ?_, ?_,
    s.balanceExpired_causes c, ?_, ?_, ?_⟩
  · simp [State.balanceExpired]
  · rw [circ, Circulation.judgeReturns_primed _ _ state enough]
    exact ⟨rfl, rfl, rfl⟩
  · rw [circ, Circulation.judgeReturns_back _ _ state enough]
    exact ⟨state, rfl, rfl⟩
  · rw [circ, Circulation.judgeReturns_absent _ _ state few]
    exact ⟨state, rfl, rfl⟩
  · rw [circ, Circulation.judgeReturns_same _ _ still]
    exact ⟨rfl, rfl, rfl⟩
  · refine (congrArg (·.lastSaturated) bal).trans ?_
    show (b.imbalance c (s.owner .head) view != b.exactImbalance c (s.owner .head) view) = _
    rw [e_eq, total_eq, Bool.eq_iff_iff, bne_iff_ne, decide_eq_true_iff]
  · refine (congrArg (·.window) bal).trans ?_
    show put b.window b.position ⟨b.imbalance c (s.owner .head) view, b.degrades c (s.owner .head) view⟩ = _
    have degrade := (b.degrades_iff c (s.owner .head) view).trans decide_eq_true_iff.symm
    rw [e_eq, Bool.eq_iff_iff.2 degrade]
    rfl
  · refine (congrArg (·.sum) bal).trans ?_
    show b.sum - b.window[b.position].value + b.imbalance c (s.owner .head) view = _
    rw [e_eq]
  · refine (congrArg (·.steelResidue) bal).trans ?_
    show (b.depthStage (s.owner .head) view).steel * c.steel + b.steelResidue -
      100 * ((b.depthStage (s.owner .head) view).steel * c.steel + b.steelResidue).tdiv 100 = _
    rw [steel]
    rfl
  · refine (congrArg (·.holeResidue) bal).trans ?_
    show (b.depthStage (s.owner .head) view).hole * c.hole + b.holeResidue -
      100 * ((b.depthStage (s.owner .head) view).hole * c.hole + b.holeResidue).tdiv 100 = _
    rw [hole]
    rfl
  · obtain ⟨d, h, held, owner⟩ := heard a fresh
    exact ⟨(congrArg (·.prevD) bal).trans d, (congrArg (·.prevH) bal).trans h, (congrArg (·.depthHeld) bal).trans held,
      (congrArg (·.prevOwner) bal).trans owner⟩
  · obtain ⟨d, h, owner, held⟩ := unheard stale
    exact ⟨(congrArg (·.prevD) bal).trans d, (congrArg (·.prevH) bal).trans h, (congrArg (·.prevOwner) bal).trans owner,
      (congrArg (·.depthHeld) bal).trans held⟩
  · exact (congrArg (fun u : Balance => u.pits[i]) bal).trans (pitsAfter_get c b.pits i)
  · have many := marks ▸ many
    exact ⟨(congrArg (·.announced) bal).trans (if_pos many), (congrArg (·.underlying) bal).trans (if_pos many)⟩
  · have few := Nat.not_le.2 (marks ▸ few)
    have judged : (s.balanceExpired c).bal.underlying = judgeCondition c (s.balanceExpired c).bal.sum b.underlying := by
      rw [show (s.balanceExpired c).bal.sum = (b.written c (s.owner .head) view).sum from congrArg (·.sum) bal]
      exact (congrArg (·.underlying) bal).trans (if_neg few)
    exact ⟨((congrArg (·.announced) bal).trans (if_neg few)).trans (congrArg (·.underlying) bal).symm, judged⟩
  · exact e_eq ▸ congrArg (·.gainTotal) bal
  · exact e_eq ▸ congrArg (·.lossTotal) bal
  · exact s.balanceExpired_holds c
  · rw [circ]
    exact congrArg (fun k : Circulation => { k with
      flowIn := c.flowIn s.circ.strokes1 s.circ.strokes2, returns := 0, strokes1 := 0, strokes2 := 0 })
      (s.circ.judgeReturns_eq c.returnsThreshold)
  · simp [State.balanceExpired]

end Sys2Proof
end

section
/-! SUPPORT. The tracker's inputs: encoder, home switch and drive (chapter 8), for O43. -/

namespace Sys2Proof.Machine

/-- A state with a tracker record, on-bottom judged on it and handed to the log (R128, R135). -/
def State.judgedAt (c : HeadConfig) (u : State) (v : Depth) : State :=
  { u with
    depth := { v with
      onBottom := decide (v.tracking = .tracking ∧ v.dmax ≤ v.d + c.bottomTolerance ∧ v.rotation ≠ none) }
    log := { u.log with
      onBottom := decide (v.tracking = .tracking ∧ v.dmax ≤ v.d + c.bottomTolerance ∧ v.rotation ≠ none) } }

theorem State.judgeBottom_at (c : HeadConfig) (u : State) (v : Depth) :
    ({ u with depth := v } : State).judgeBottom c = u.judgedAt c v := by
  have bottom : (v.tracking == .tracking && decide (v.dmax ≤ v.d + c.bottomTolerance) && v.rotation.isSome) =
      decide (v.tracking = .tracking ∧ v.dmax ≤ v.d + c.bottomTolerance ∧ v.rotation ≠ none) := by
    rw [Bool.eq_iff_iff]
    simp [and_assoc, Option.isSome_iff_ne_none]
  rw [judgeBottom, bottom]
  rfl

theorem State.judgeBottom_self (c : HeadConfig) (s : State) : s.judgeBottom c = s.judgedAt c s.depth :=
  State.judgeBottom_at c s s.depth

section

variable {s : State} {c : HeadConfig} {a b closed level : Level}

/-! ### The encoder (R121) -/

/-- The encoder lines at a pair of levels. -/
def State.withEncoder (s : State) (a b : Level) : State := { s with pins := { s.pins with encA := a, encB := b } }

theorem exec_encoderLineChange_still
    (still : s.acts .head = false ∨ s.depth.tracking = .unhomed ∨ (a = s.pins.encA ∧ b = s.pins.encB)) :
    exec (.encoderLineChange a b) s = .next (s.withEncoder a b) := by
  refine congrArg Host.Outcome.next ?_
  by_cases same : s.depth.tracking = .unhomed ∨ (a = s.pins.encA ∧ b = s.pins.encB)
  · exact if_pos same
  · exact (if_neg same).trans (State.asHead_inactive (s := s.withEncoder a b) _ (still.resolve_right same))

theorem exec_encoderLineChange_fault (acts : s.acts .head = true) (group : s.node.head = some c)
    (homed : s.depth.tracking ≠ .unhomed) (differA : a ≠ s.pins.encA) (differB : b ≠ s.pins.encB) :
    exec (.encoderLineChange a b) s = .next ((s.withEncoder a b).encoderFault c) := by
  refine congrArg Host.Outcome.next ((if_neg (by simp [homed, differA])).trans ?_)
  exact (State.asHead_acting (s := s.withEncoder a b) _ acts group).trans (if_pos ⟨differA, differB⟩)

theorem exec_encoderLineChange_step (acts : s.acts .head = true) (group : s.node.head = some c)
    (homed : s.depth.tracking ≠ .unhomed) (one : a = s.pins.encA ↔ b ≠ s.pins.encB) :
    exec (.encoderLineChange a b) s = .next ((s.withEncoder a b).counted c (upSense s a b)) := by
  refine congrArg Host.Outcome.next ((if_neg fun
    | .inl unhomed => homed unhomed
    | .inr ⟨sameA, sameB⟩ => one.1 sameA sameB).trans ?_)
  exact (State.asHead_acting (s := s.withEncoder a b) _ acts group).trans
    (if_neg fun ⟨differA, differB⟩ => differA (one.2 differB))

/-- The count after a step up or down. -/
def Depth.moved (t : Depth) (c : HeadConfig) (up : Bool) : Nat :=
  if up = true then min c.travelCount (t.count + 1) else t.count - 1

theorem State.counted_same (up : Bool) (same : s.depth.moved c up = s.depth.count) : s.counted c up = s := if_pos same

theorem State.counted_untracked (up : Bool) (moves : s.depth.moved c up ≠ s.depth.count)
    (other : s.depth.tracking ≠ .tracking) :
    s.counted c up = s.judgedAt c { s.depth with count := s.depth.moved c up } := by
  rw [← State.judgeBottom_at]
  exact (if_neg moves).trans (congrArg (State.judgeBottom c) (if_neg other))

theorem State.recomputed_held (held : s.depth.jumpHeld = true) :
    s.recomputed c = { s with depth :=
      { s.depth.rebased (c.bitDepth s.heardLength s.depth.count) with jumpHeld := false, lastL := s.heardLength } } :=
  if_pos held

theorem State.recomputed_free (free : s.depth.jumpHeld = false) :
    s.recomputed c = s.advanceTo (c.bitDepth s.heardLength s.depth.count) := if_neg (by simp [free])

/-- The count moved, D not yet recomputed. -/
def State.stepped (s : State) (c : HeadConfig) (up : Bool) : State :=
  { s with depth := { s.depth with count := s.depth.moved c up } }

theorem State.counted_held (up : Bool) (moves : s.depth.moved c up ≠ s.depth.count)
    (tracking : s.depth.tracking = .tracking) (held : s.depth.jumpHeld = true) :
    s.counted c up = s.judgedAt c { s.depth.rebased (c.bitDepth s.heardLength (s.depth.moved c up)) with
      count := s.depth.moved c up, jumpHeld := false
      lastL := if s.depth.jumpHeld = true then s.heardLength else s.depth.lastL } := by
  have counted : s.counted c up = ((s.stepped c up).recomputed c).judgeBottom c :=
    (if_neg moves).trans (congrArg (State.judgeBottom c) (if_pos tracking))
  rw [counted, State.recomputed_held (s := s.stepped c up) held, State.judgeBottom_at,
    if_pos held]
  rfl

theorem State.counted_free (up : Bool) (moves : s.depth.moved c up ≠ s.depth.count)
    (tracking : s.depth.tracking = .tracking) (free : s.depth.jumpHeld = false) :
    s.counted c up = ((s.stepped c up).advanceTo (c.bitDepth s.heardLength (s.depth.moved c up))).judgeBottom c := by
  have counted : s.counted c up = ((s.stepped c up).recomputed c).judgeBottom c :=
    (if_neg moves).trans (congrArg (State.judgeBottom c) (if_pos tracking))
  rw [counted, State.recomputed_free (s := s.stepped c up) free]
  rfl

theorem upSense_iff (s : State) (a b : Level) :
    upSense s a b = true ↔
      ((if s.pins.encA ≠ a then a ≠ s.pins.encB else b = s.pins.encA) ↔ s.pins.upSense = true) := by
  rw [upSense, upward]
  generalize s.pins.encA = oldA, s.pins.encB = oldB, s.pins.upSense = sense
  revert oldA oldB sense a b
  decide

/-! ### Home switch and drive (R122, R123, R126) -/

/-- The tracker record after the home switch has loaded the count. -/
def State.homedDepth (s : State) (c : HeadConfig) : Depth :=
  match s.depth.tracking with
  | .unhomed => { s.depth with
      count := c.travelCount
      tracking := if s.pins.headDrive = true then .resync else .frozen
      driveRise := if s.pins.headDrive = true then some s.now else s.depth.driveRise }
  | .tracking => { s.depth with
      count := c.travelCount
      d := c.bitDepth s.heardLength c.travelCount
      advance := max s.depth.advance (c.bitDepth s.heardLength c.travelCount)
      jumpHeld := false
      lastL := if s.depth.jumpHeld = true then s.heardLength else s.depth.lastL }
  | .frozen | .resync => { s.depth with count := c.travelCount }

theorem State.homed_eq (c : HeadConfig) (s : State) : s.homed c = s.judgedAt c (s.homedDepth c) := by
  rw [← State.judgeBottom_at]
  refine congrArg (fun t : Depth => ({ s with depth := t } : State).judgeBottom c) ?_
  unfold homedDepth
  dsimp only
  cases s.depth.tracking with
  | unhomed => cases s.pins.headDrive <;> rfl
  | tracking => rfl
  | frozen => rfl
  | resync => rfl

theorem exec_homeSwitchEdge_still (still : s.acts .head = false ∨ closed = s.pins.home) :
    exec (.homeSwitchEdge closed) s = .next { s with pins := { s.pins with home := closed } } := by
  refine congrArg Host.Outcome.next ?_
  by_cases same : closed = s.pins.home
  · exact if_pos same
  · exact (if_neg same).trans (State.asHead_inactive (s := { s with pins := { s.pins with home := closed } }) _
      (still.resolve_right same))

theorem exec_homeSwitchEdge_edge (acts : s.acts .head = true) (group : s.node.head = some c) (edge : closed ≠ s.pins.home) :
    exec (.homeSwitchEdge closed) s = .next (State.homed c { s with pins := { s.pins with home := closed } }) :=
  congrArg Host.Outcome.next ((if_neg edge).trans
    (State.asHead_acting (s := { s with pins := { s.pins with home := closed } }) _ acts group))

theorem exec_headDriveChange_still (still : s.acts .head = false ∨ level = s.pins.headDrive) :
    exec (.headDriveChange level) s = .next { s with pins := { s.pins with headDrive := level } } := by
  refine congrArg Host.Outcome.next ?_
  by_cases same : level = s.pins.headDrive
  · exact if_pos same
  · exact (if_neg same).trans (State.asHead_inactive (s := { s with pins := { s.pins with headDrive := level } }) _
      (still.resolve_right same))

theorem exec_headDriveChange_edge (acts : s.acts .head = true) (group : s.node.head = some c)
    (edge : level ≠ s.pins.headDrive) :
    exec (.headDriveChange level) s = .next (State.judgedAt c { s with pins := { s.pins with headDrive := level } }
      (s.depth.driveChanged level s.now)) := by
  rw [← State.judgeBottom_at]
  exact congrArg Host.Outcome.next ((if_neg edge).trans
    (State.asHead_acting (s := { s with pins := { s.pins with headDrive := level } }) _ acts group))

theorem Depth.driveChanged_eq (t : Depth) (level : Level) (now : Nat) :
    t.driveChanged level now = match t.tracking with
      | .tracking => if level = true then t else { t with tracking := .frozen, jumpHeld := false }
      | .resync => if level = true then t else { t with tracking := .frozen, driveRise := none }
      | .frozen => if level = true then { t with tracking := .resync, driveRise := some now } else t
      | .unhomed => t := by
  unfold driveChanged
  cases t.tracking <;> cases level <;> rfl

end

end Sys2Proof.Machine

namespace Sys2Proof

open Machine

/-- Settles O43: each line change by the tracking state, with on-bottom judged on what it leaves. -/
theorem trackerInputsAreTaken : Obligations.TrackerInputsAreTaken := by
  unfold Obligations.TrackerInputsAreTaken
  intro a b closed level c s
  dsimp only
  refine ⟨exec_encoderLineChange_still, fun ⟨acts, group⟩ homed differA differB => ?_,
    fun ⟨acts, group⟩ homed one => ⟨fun same => ?_, fun moves other => ?_, fun moves tracking held => ?_,
      fun moves tracking free => ?_⟩, exec_homeSwitchEdge_still, fun ⟨acts, group⟩ edge => ?_,
    exec_headDriveChange_still, fun ⟨acts, group⟩ edge => ?_, upSense_iff s a b⟩
  · rw [exec_encoderLineChange_fault acts group homed differA differB]
    exact congrArg Host.Outcome.next (State.judgeBottom_at c
      { s.withEncoder a b with causes := s.causes ||| causeBit .encoderFault } _)
  · rw [exec_encoderLineChange_step acts group homed one, State.counted_same (s := s.withEncoder a b) _ same]
    rfl
  · rw [exec_encoderLineChange_step acts group homed one, State.counted_untracked (s := s.withEncoder a b) _ moves other]
    rfl
  · rw [exec_encoderLineChange_step acts group homed one, State.counted_held (s := s.withEncoder a b) _ moves tracking held]
    rfl
  · rw [exec_encoderLineChange_step acts group homed one, State.counted_free (s := s.withEncoder a b) _ moves tracking free,
      State.judgeBottom_self]
    rfl
  · rw [exec_homeSwitchEdge_edge acts group edge, State.homed_eq]
    rfl
  · rw [exec_headDriveChange_edge acts group edge, Depth.driveChanged_eq]
    rfl

end Sys2Proof
end

section
/-! SUPPORT. HANDLER arrivals at the tracker, rotation and rate of penetration (chapter 8), for O44 and O45. -/

namespace Sys2Proof.Machine

section

variable {s : State} {c : HeadConfig} {a : HandlerAnnounce}

/-! ### Resync and length changes (R125, R126) -/

theorem Depth.resyncDue_iff (t : Depth) (now : Nat) :
    t.resyncDue now = true ↔ ∃ r, t.driveRise = some r ∧ r + 525 ≤ now := by
  rw [resyncDue]
  rcases t.driveRise with _ | r
  · simp
  · simp only [Option.some.injEq, exists_eq_left']
    exact decide_eq_true_iff

theorem State.resyncArrival_iff (s : State) (a : HandlerAnnounce) :
    (s.depth.resyncDue s.now && !a.stringOpen) = true ↔
      ∃ r, s.depth.driveRise = some r ∧ r + 525 ≤ s.now ∧ a.stringOpen = false := by
  rw [Bool.and_eq_true, Depth.resyncDue_iff, Bool.not_eq_true']
  simp only [← and_assoc, exists_and_right]

theorem State.depthHandlerArrival_deaf (deaf : s.depth.tracking = .unhomed ∨ s.depth.tracking = .frozen) :
    s.depthHandlerArrival c a = s := by
  rcases deaf with state | state <;> rw [depthHandlerArrival, state]

theorem State.depthHandlerArrival_resync (state : s.depth.tracking = .resync) :
    s.depthHandlerArrival c a = if s.depth.resyncDue s.now && !a.stringOpen then
      (s.resynced c a.length.toNat).judgeBottom c else s := by
  rw [depthHandlerArrival, state]

theorem State.depthHandlerArrival_tracking (state : s.depth.tracking = .tracking) :
    s.depthHandlerArrival c a = if a.length.toNat ≠ s.depth.lastL ∧ !s.depth.jumpHeld then
      (s.lengthChanged c a.length.toNat).judgeBottom c else s := by
  rw [depthHandlerArrival, state]

theorem State.resynced_near {l : Nat}
    (near : ((c.bitDepth l s.depth.count : Int) - s.depth.d).natAbs ≤ c.resyncTolerance) :
    s.resynced c l = { s with depth := { s.depth.rebased (c.bitDepth l s.depth.count) with
      tracking := .tracking, driveRise := none, lastL := l } } := by
  rw [resynced]
  dsimp only
  rw [if_neg (Nat.not_lt.2 near)]

theorem State.resynced_far {l : Nat}
    (far : c.resyncTolerance < ((c.bitDepth l s.depth.count : Int) - s.depth.d).natAbs) :
    s.resynced c l = { s.depthMismatch with depth := { s.depth.rebased (c.bitDepth l s.depth.count) with
      tracking := .tracking, driveRise := none, lastL := l } } := by
  rw [resynced]
  dsimp only
  rw [if_pos far]
  rfl

theorem State.lengthChanged_jump {l : Nat} (jump : s.depth.d + 500 < c.bitDepth l s.depth.count) :
    s.lengthChanged c l = { s.depthMismatch with depth := { s.depth with jumpHeld := true } } := if_pos jump

theorem State.lengthChanged_taken {l : Nat} (near : c.bitDepth l s.depth.count ≤ s.depth.d + 500) :
    s.lengthChanged c l =
      ({ s with depth := { s.depth with lastL := l } } : State).advanceTo (c.bitDepth l s.depth.count) :=
  if_neg (Nat.not_lt.2 near)

/-! ### A new D taken as drilling (R124, R138) -/

theorem State.logRise_level (n : Nat) (s : State) : s.logRise n n = s := if_neg fun rise => by omega

theorem State.advanceTo_above {d : Nat} (above : d ≤ s.depth.advance) :
    s.advanceTo d = { s with depth := { s.depth with d := d } } := by
  have kept (band : Fin 4) : s.depth.advanced d band = { s.depth with d := d } := if_neg (Nat.not_lt.2 above)
  rw [advanceTo, kept]
  exact State.logRise_level _ _

theorem State.advanceTo_below {d : Nat} (below : s.depth.advance < d) :
    s.advanceTo d = State.logRise s.depth.dmax (s.depth.dmax + (d - s.depth.advance)) { s with depth := { s.depth with
      d := d, dmax := s.depth.dmax + (d - s.depth.advance), advance := d
      footage := put s.depth.footage (bandIndex (bandOf s.log.current.lithology))
        (min 4294967295 (s.depth.footage[bandIndex (bandOf s.log.current.lithology)] + (d - s.depth.advance))) } } := by
  have grown (band : Fin 4) : s.depth.advanced d band = { s.depth with
      d := d, dmax := s.depth.dmax + (d - s.depth.advance), advance := d
      footage := put s.depth.footage band (min 4294967295 (s.depth.footage[band] + (d - s.depth.advance))) } :=
    if_pos below
  rw [advanceTo, grown]

theorem State.judgeBottom_onBottom (s : State) (c : HeadConfig) :
    (s.judgeBottom c).depth.onBottom = true ↔
      s.depth.tracking = .tracking ∧ s.depth.dmax ≤ s.depth.d + c.bottomTolerance ∧ s.depth.rotation ≠ none := by
  rw [State.judgeBottom_self]
  exact decide_eq_true_iff

/-! ### Rotation and rate of penetration (R128, R129) -/

theorem exec_headEvent {i : Instr} {f : HeadConfig → State} (event : exec i s = .next (s.asHead f))
    (acts : s.acts .head = true) (group : s.node.head = some c) : exec i s = .next (f c) :=
  event.trans (congrArg Host.Outcome.next (State.asHead_acting f acts group))

theorem exec_headEvent_idle {i : Instr} {f : HeadConfig → State} (event : exec i s = .next (s.asHead f))
    (idle : s.acts .head = false) : exec i s = .next s :=
  event.trans (congrArg Host.Outcome.next (State.asHead_inactive f idle))

theorem Depth.rotationOver_iff (t : Depth) (now : Nat) :
    t.rotationOver now = true ↔ ∃ r, t.rotation = some r ∧ r + 125000 ≤ now := by
  rw [rotationOver]
  rcases t.rotation with _ | r
  · simp
  · simp only [Option.some.injEq, exists_eq_left']
    exact decide_eq_true_iff

/-- The rate of penetration rounds half up. -/
theorem Depth.rop_bounds {t : Depth} (filled : 0 < t.filled) :
    2 * t.filled * t.rop ≤ 60 * t.ring.toList.sum + t.filled ∧
      60 * t.ring.toList.sum + t.filled < 2 * t.filled * (t.rop + 1) := by
  have quotient : t.rop = (60 * t.ring.toList.sum + t.filled) / (2 * t.filled) := by
    rw [rop, if_neg (Nat.ne_of_gt filled), Nat.mul_comm]
  rw [quotient]
  exact ⟨Nat.mul_div_le _ _, Nat.lt_mul_div_succ _ (by omega)⟩

end

end Sys2Proof.Machine

namespace Sys2Proof

open Machine

/-- Settles O44: an arrival by the tracking state, a new D by the advance depth. -/
theorem trackerReadsArrivals : Obligations.TrackerReadsArrivals := by
  unfold Obligations.TrackerReadsArrivals
  intro c a d s
  dsimp only
  rw [← s.resyncArrival_iff a]
  refine ⟨State.depthHandlerArrival_deaf, fun state early => ?_, fun state due near => ?_, fun state due far => ?_,
    fun state still => ?_, fun state change free jump => ?_, fun state change free near => ?_, State.advanceTo_above,
    State.advanceTo_below, rfl, s.judgeBottom_onBottom c⟩
  · rw [State.depthHandlerArrival_resync state, if_neg early]
  · rw [State.depthHandlerArrival_resync state, if_pos due, State.resynced_near near]
    rfl
  · rw [State.depthHandlerArrival_resync state, if_pos due, State.resynced_far far]
    rfl
  · rw [State.depthHandlerArrival_tracking state, if_neg]
    rcases still with same | held
    · simp [same]
    · simp [held]
  · rw [State.depthHandlerArrival_tracking state, if_pos ⟨change, by simp [free]⟩, State.lengthChanged_jump jump]
    rfl
  · rw [State.depthHandlerArrival_tracking state, if_pos ⟨change, by simp [free]⟩, State.lengthChanged_taken near]
    rfl

/-- Settles O45: the acting HEAD block's events, and the rounding of the rate. -/
theorem rotationAndRopAreSampled : Obligations.RotationAndRopAreSampled := by
  unfold Obligations.RotationAndRopAreSampled
  intro c s
  dsimp only
  refine ⟨fun idle => ?_, fun acts group => ⟨?_, fun r turns ended => ?_, fun early => ?_, ?_⟩,
    fun empty => if_pos empty, Depth.rop_bounds⟩
  · simp only [List.forall_mem_cons, List.not_mem_nil, false_implies, implies_true, and_true]
    exact ⟨exec_headEvent_idle rfl idle, exec_headEvent_idle rfl idle, exec_headEvent_idle rfl idle⟩
  · exact (exec_headEvent rfl acts group).trans rfl
  · exact (exec_headEvent rfl acts group).trans
      (congrArg Host.Outcome.next (if_pos ((s.depth.rotationOver_iff s.now).2 ⟨r, turns, ended⟩)))
  · refine (exec_headEvent rfl acts group).trans (congrArg Host.Outcome.next (if_neg ?_))
    rw [s.depth.rotationOver_iff]
    rintro ⟨r, turns, ended⟩
    exact absurd ended (Nat.not_le.2 (early r turns))
  · exact (exec_headEvent rfl acts group).trans rfl

end Sys2Proof
end

section
/-! SUPPORT. The open interval: remarks, classes, closes and new holes (chapter 9), for O46 and O47. -/

namespace Sys2Proof.Machine

section

variable {s : State} {c : HeadConfig}

/-! ### The store and the open interval (R133, R134, R137) -/

/-- What a close needs of the store (R137, log 18). -/
theorem StrataLog.takes_iff (g : StrataLog) (n : Nat) :
    g.takes n = true ↔ g.store.length + n ≤ 400 ∧ g.latch = false ∧ g.current.sequence + n ≤ 4294967295 := by
  simp only [takes, Bool.and_eq_true, decide_eq_true_eq, Bool.not_eq_true', and_assoc]
  exact Iff.rfl

theorem Interval.parts_eq (iv : Interval) : iv.parts = if iv.lower = none then 1 else 2 := by
  rw [parts]
  cases iv.lower <;> rfl

theorem State.writeRecords_eq (bodies : List StrataBody) (s : State) :
    s.writeRecords bodies = { s with
      log := { s.log with store := s.log.store ++ numbered s.log.current.sequence bodies }
      causes := if s.log.store.length < 360 ∧ 360 ≤ s.log.store.length + bodies.length then
        s.causes ||| causeBit .storeNearFull else s.causes } := by
  have full : (decide (s.log.store.length < Config.nearFull) && decide (Config.nearFull ≤
      (s.log.store ++ numbered s.log.current.sequence bodies).length)) =
      decide (s.log.store.length < 360 ∧ 360 ≤ s.log.store.length + bodies.length) := by
    rw [List.length_append, numbered_length, Bool.decide_and]
    rfl
  rw [writeRecords, full]
  by_cases near : s.log.store.length < 360 ∧ 360 ≤ s.log.store.length + bodies.length
  · rw [decide_eq_true near, if_pos near]
    rfl
  · rw [decide_eq_false near, if_neg near]
    rfl

/-- The open interval replaced. -/
def State.withInterval (s : State) (iv : Interval) : State := { s with log := { s.log with current := iv } }

/-! ### New holes (R127, R140) -/

theorem State.stringShownEmpty_iff (s : State) :
    s.stringShownEmpty = true ↔ ∃ a, freshContent s.handlerView = some a ∧ a.entries = 0#8 := by
  rw [stringShownEmpty]
  cases freshContent s.handlerView <;> simp

theorem exec_headRequest {i : Instr} {f : State → Answered} (request : exec i s = answered i (s.runningRequest .head f))
    (acts : s.acts .head = true) : exec i s = answered i (f s) := by
  rw [request, State.runningRequest_acting f acts]

theorem newHoleRequest_shown (acts : s.acts .head = true) (group : s.node.head = some c) (shown : s.stringShownEmpty = true) :
    newHoleRequest s = (okWith [], (({ s with depth := s.depth.newHole } : State).logNewHole s.depth.dmax).judgeBottom c) := by
  have node : (({ s with depth := s.depth.newHole } : State).logNewHole s.depth.dmax).node = s.node := by simp
  rw [newHoleRequest, if_neg (by simp [shown])]
  exact congrArg (Prod.mk (okWith [])) (State.asHead_acting _ ((State.acts_congr node .head).trans acts)
    ((congrArg Node.head node).trans group))

theorem State.logNewHole_reopens {old : Nat} (above : old ≤ s.log.current.top) (whole : s.log.current.lower = none) :
    s.logNewHole old = s.reopenInterval s.log.current.sequence := by
  rw [logNewHole, if_pos above, whole]

theorem State.logNewHole_lower {old : Nat} {lower : StrataBody} (above : old ≤ s.log.current.top)
    (split : s.log.current.lower = some lower) :
    s.logNewHole old = if s.log.takes 1 then (s.writeRecords [lower]).reopenInterval (s.log.current.sequence + 1)
      else s.discardInterval 1 := by
  rw [logNewHole, if_pos above, split]

theorem State.logNewHole_below {old : Nat} (below : s.log.current.top < old) :
    s.logNewHole old = if s.log.takes s.log.current.parts then s.closeInterval old 0 s.log.current.lithology
      else s.discardInterval s.log.current.parts :=
  if_neg (Nat.not_le.2 below)

/-! ### Classes (R139) -/

theorem lithologyTable_none {code : Byte} (large : 16 ≤ code.toNat) : lithologyTable[code.toNat]? = none :=
  List.getElem?_eq_none large

section

variable {code : Byte} {kind : Lithology} (named : code.toNat = codeOf lithologyTable kind)
include named

theorem setLithologyRequest_named :
    setLithologyRequest code s =
      if s.depth.dmax ≤ s.log.current.top then
        (outcomeReply .reclassified, State.reclassified kind (match s.log.current.lower with
          | some b => if s.log.takes 1 then s.writeLower b else s
          | none => s))
      else if s.log.takes s.log.current.parts then
        (outcomeReply .closed, s.closeInterval s.depth.dmax s.depth.dmax kind)
      else if s.log.current.lower.isNone then (outcomeReply .split, s.splitInterval kind)
      else (outcomeReply .reclassified, s.reclassified kind) := by
  rw [setLithologyRequest, named, lithologyTable_code] <;> rfl

theorem setLithologyRequest_reclassified (above : s.depth.dmax ≤ s.log.current.top)
    (none : s.log.current.lower = none ∨ s.log.takes 1 = false) :
    setLithologyRequest code s = (outcomeReply .reclassified, s.reclassified kind) := by
  rw [setLithologyRequest_named named, if_pos above]
  cases lower : s.log.current.lower with
  | none => rfl
  | some b =>
    have full := none.resolve_left (by simp [lower])
    dsimp only
    rw [if_neg (by simp [full])]

/-- A class set above the split, the lower part written alone. -/
theorem setLithologyRequest_writes {b : StrataBody} (above : s.depth.dmax ≤ s.log.current.top)
    (lower : s.log.current.lower = some b) (room : s.log.takes 1 = true) :
    ∃ t, setLithologyRequest code s = (outcomeReply .reclassified, t) ∧ t.port = s.port ∧
      t.log.current = { s.log.current with sequence := s.log.current.sequence + 1, lower := none, lithology := kind } ∧
      t.log.store = s.log.store ++ [⟨s.log.current.sequence, b, recordCrc s.log.current.sequence b⟩] := by
  refine ⟨(s.writeLower b).reclassified kind, ?_, ?_⟩
  · rw [setLithologyRequest_named named, if_pos above, lower]
    dsimp only
    rw [if_pos room]
  · rw [State.writeLower, State.writeRecords_eq]
    exact ⟨rfl, rfl, rfl⟩

end

/-! ### Rises (R138) -/

theorem State.logRise_eq (group : s.node.head = some c) (old new : Nat) :
    s.logRise old new =
      if old < s.log.current.gridBase + ((old - s.log.current.gridBase) / c.intervalLength + 1) * c.intervalLength ∧
          s.log.current.gridBase + ((old - s.log.current.gridBase) / c.intervalLength + 1) * c.intervalLength ≤ new then
        if s.log.takes s.log.current.parts then
          s.closeInterval
            (s.log.current.gridBase + ((old - s.log.current.gridBase) / c.intervalLength + 1) * c.intervalLength)
            (s.log.current.gridBase + ((old - s.log.current.gridBase) / c.intervalLength + 1) * c.intervalLength)
            s.log.current.lithology
        else s.withInterval { s.log.current with flags := s.log.current.flags.overran s.log.latch }
      else s := by
  have length : s.intervalLength = c.intervalLength := by rw [intervalLength, group]
  rw [logRise, length]
  rfl

end

end Sys2Proof.Machine

namespace Sys2Proof

open Machine

/-- Settles O46: new holes, classes, remarks and rises, each by whether the store takes the close. -/
theorem logRequestsAreTaken : Obligations.LogRequestsAreTaken := by
  unfold Obligations.LogRequestsAreTaken
  intro code kind c old new s acts group
  dsimp only
  rw [← s.stringShownEmpty_iff, ← Interval.parts_eq]
  simp only [← StrataLog.takes_iff s.log]
  refine ⟨fun shut => ?_, fun shown => ?_, fun above whole => ?_, fun lower above split room => ?_,
    fun above split full => ?_, fun below room => ?_, fun below full => ?_, fun large => ?_, fun named =>
    ⟨fun above none => ?_, fun above split room => ?_, fun below room => ?_, fun below full whole => ?_,
      fun below full split => ?_⟩, fun zero => ?_, fun code full => ?_, fun code room => ?_, ?_, fun level => ?_,
    fun low high room => ?_, fun low high full => ?_⟩
  · rw [exec_headRequest rfl acts, newHoleRequest, if_pos (by simp [shut])]
    rfl
  · rw [exec_headRequest rfl acts, newHoleRequest_shown acts group shown]
    rfl
  · rw [State.logNewHole_reopens above whole]
    rfl
  · rw [State.logNewHole_lower above split, if_pos room, State.writeRecords_eq]
    exact ⟨rfl, rfl, rfl⟩
  · obtain ⟨lower, split⟩ := Option.ne_none_iff_exists'.1 split
    rw [State.logNewHole_lower above split, if_neg full]
    rfl
  · rw [State.logNewHole_below below, if_pos room]
  · rw [State.logNewHole_below below, if_neg full]
    rfl
  · rw [exec_headRequest rfl acts, setLithologyRequest, lithologyTable_none large]
    rfl
  · rw [exec_headRequest rfl acts, setLithologyRequest_reclassified named above (none.imp_right Bool.eq_false_iff.2)]
    rfl
  · obtain ⟨lower, split⟩ := Option.ne_none_iff_exists'.1 split
    obtain ⟨t, written, port, current, store⟩ := setLithologyRequest_writes named above split room
    have reply : outcomeReply .reclassified = ⟨.ok, [0#8]⟩ := rfl
    rw [exec_headRequest rfl acts, written, reply]
    refine ⟨_, rfl, congrArg (Port.finish · (.setLithology code) ⟨.ok, [0#8]⟩) port, current,
      ⟨s.log.current.sequence, lower, recordCrc s.log.current.sequence lower⟩, store, rfl, split.symm, ?_⟩
    dsimp only
  · rw [exec_headRequest rfl acts, setLithologyRequest_named named, if_neg (Nat.not_le.2 below), if_pos room]
    rfl
  · rw [exec_headRequest rfl acts, setLithologyRequest_named named, if_neg (Nat.not_le.2 below), if_neg full,
      if_pos (by simp [whole])]
    rfl
  · rw [exec_headRequest rfl acts, setLithologyRequest_named named, if_neg (Nat.not_le.2 below), if_neg full,
      if_neg (by simpa using split)]
    rfl
  · rw [exec_headRequest rfl acts, addRemarkRequest, if_pos zero]
    rfl
  · rw [exec_headRequest rfl acts, addRemarkRequest, if_neg code, if_pos full]
    rfl
  · rw [exec_headRequest rfl acts, addRemarkRequest, if_neg code, if_neg (Nat.not_le.2 room)]
    rfl
  · rw [exec_headRequest rfl acts]
    rfl
  · rw [State.logRise_eq group, if_neg level]
  · rw [State.logRise_eq group, if_pos ⟨low, high⟩, if_pos room]
  · rw [State.logRise_eq group, if_pos ⟨low, high⟩, if_neg full]
    rfl

end Sys2Proof
end

section
/-! SUPPORT. Closes, the store and the verify scan (chapter 9), for O47 and O48. -/

namespace Sys2Proof.Machine

section

variable {s : State}

/-! ### A close the store takes (R134, R137) -/

theorem State.closeInterval_eq (bottom depth : Nat) (kind : Lithology) (s : State) :
    s.closeInterval bottom depth kind = { s with
      log := { s.log with
        store := s.log.store ++ numbered s.log.current.sequence (s.closedParts bottom)
        current := s.openedInterval (s.log.current.sequence + s.log.current.parts) depth kind s.log.current.bottomTenths }
      causes := if s.log.store.length < 360 ∧ 360 ≤ s.log.store.length + s.log.current.parts then
        s.causes ||| causeBit .storeNearFull else s.causes } := by
  rw [closeInterval, writeRecords_eq, closedParts_length]
  rfl

/-- The mean rate of penetration rounds half up. -/
theorem meanRop_bounds {seconds : Nat} (length : Nat) (some : 0 < seconds) :
    2 * seconds * meanRop length seconds ≤ 120 * length + seconds ∧
      120 * length + seconds < 2 * seconds * (meanRop length seconds + 1) := by
  have quotient : meanRop length seconds = (120 * length + seconds) / (2 * seconds) := by
    rw [meanRop, if_neg (Nat.ne_of_gt some), Nat.mul_comm length]
  rw [quotient]
  exact ⟨Nat.mul_div_le _ _, Nat.lt_mul_div_succ _ (by omega)⟩

theorem State.mudFigures_unheard (unheard : lastHeard s.mudView = none) : s.mudFigures = ⟨0, 0, true⟩ := by
  rw [mudFigures, unheard]

theorem State.mudFigures_unbased {a : MudAnnounce} (heard : lastHeard s.mudView = some a)
    (unbased : s.log.current.baseline = none) : s.mudFigures = ⟨a.gain.toNat, a.loss.toNat, true⟩ := by
  rw [mudFigures, heard, unbased]

theorem State.mudFigures_based {a : MudAnnounce} {b : MudBaseline} (heard : lastHeard s.mudView = some a)
    (based : s.log.current.baseline = some b) :
    s.mudFigures = ⟨sinceBaseline a.gain.toNat b.gain, sinceBaseline a.loss.toNat b.loss,
      decide (a.gain.toNat < b.gain) || decide (a.loss.toNat < b.loss) || (freshContent s.mudView).isNone⟩ := by
  rw [mudFigures, heard, based]

/-! ### TRIM, VERIFY, FETCH_RECORD (R142 to R144) -/

theorem trimRequest_bad {n : BitVec 16} (rests : s.log.scan.state ≠ .inFlight)
    (bad : n = 0#16 ∨ s.log.store.length < n.toNat) : trimRequest n s = (badValue 1, s) := by
  rw [trimRequest, if_neg rests]
  exact if_pos (bad.imp_left fun zero => by rw [zero]; rfl)

theorem trimRequest_good {n : BitVec 16} (rests : s.log.scan.state ≠ .inFlight) (some : 0 < n.toNat)
    (most : n.toNat ≤ s.log.store.length) :
    trimRequest n s = (okWith (be 2 (s.log.store.length - n.toNat)), { s with log := { s.log with
      store := s.log.store.drop n.toNat
      cursor := max s.log.cursor (s.log.current.sequence - (s.log.store.drop n.toNat).length) } }) := by
  rw [trimRequest, if_neg rests, ← List.length_drop]
  exact if_neg (by omega)

theorem exec_trim (n : BitVec 16) (acts : s.acts .head = true) : exec (.trim n) s = answered (.trim n) (trimRequest n s) :=
  exec_headRequest rfl acts

theorem exec_verify (acts : s.acts .head = true) : exec .verify s = answered .verify (verifyRequest s) :=
  exec_headRequest rfl acts

theorem State.beginScan_empty (empty : s.log.store = []) : s.beginScan = { s with
    log := { s.log with scan := ⟨.clean, none, none, none⟩ }, timers := { s.timers with scan := none } } := if_pos empty

theorem State.beginScan_store (stored : s.log.store ≠ []) : s.beginScan = { s with
    log := { s.log with scan := ⟨.inFlight, some (s.log.current.sequence - s.log.store.length),
      some (s.log.current.sequence - 1), none⟩ }
    timers := { s.timers with scan := some (s.now + 2500) } } := by
  rw [beginScan, if_neg stored, StrataLog.oldestStored, StrataLog.newestStored, if_neg stored, if_neg stored]
  rfl

theorem exec_fetchRecord (form : Byte) (sequence : BitVec 32) (active : s.active .head = true) :
    exec (.fetchRecord form sequence) s =
      answered (.fetchRecord form sequence) (fetchRecordRequest form sequence s) := by
  simp only [State.active, Bool.and_eq_true, Bool.not_eq_true'] at active
  exact congrArg (answered _) (State.roleRequest_active s .head _ active.1 active.2)

theorem fetchNumber_bad {form : Byte} (sequence : BitVec 32) (g : StrataLog) (large : 3 ≤ form.toNat) :
    fetchNumber form sequence g = none := by
  unfold fetchNumber
  split
  case h_4 => rfl
  all_goals omega

theorem fetchNumber_good {form : Byte} (sequence : BitVec 32) (g : StrataLog) (small : form.toNat < 3) :
    fetchNumber form sequence g = some (if form = 0#8 then g.current.sequence - g.store.length
      else if form = 1#8 then g.cursor else sequence.toNat) := by
  have cases : form = 0#8 ∨ form = 1#8 ∨ form = 2#8 := by
    rcases show form.toNat = 0 ∨ form.toNat = 1 ∨ form.toNat = 2 by omega with n | n | n
    · exact .inl (BitVec.eq_of_toNat_eq n)
    · exact .inr (.inl (BitVec.eq_of_toNat_eq n))
    · exact .inr (.inr (BitVec.eq_of_toNat_eq n))
  rcases cases with rfl | rfl | rfl <;> rfl

theorem fetchRecordRequest_of_number {form : Byte} {sequence : BitVec 32} {n : Nat}
    (number : fetchNumber form sequence s.log = some n) :
    fetchRecordRequest form sequence s = match s.log.record n with
      | none => s.refused .noSuchRecord
      | some r => (okWith (recordField r), { s with log := { s.log with cursor := n + 1 } }) := by
  rw [fetchRecordRequest, number] <;> rfl

/-! ### The verify scan (R144, R145) -/

theorem StrataRecord.sound_iff (r : StrataRecord) : r.sound = true ↔ recordCrc r.sequence r.body = r.crc := beq_iff_eq

theorem exec_verifyScanStep_rests (rests : s.log.scan.state ≠ .inFlight) : exec .verifyScanStep s = .next s :=
  congrArg Host.Outcome.next (if_neg rests)

theorem exec_verifyScanStep_record {p : Nat} {r : StrataRecord} (flies : s.log.scan.state = .inFlight)
    (position : s.log.scan.position = some p) (record : s.log.record p = some r) :
    exec .verifyScanStep s = .next (s.scanRecord p r) := by
  refine congrArg Host.Outcome.next ((if_pos flies).trans ?_)
  rw [position]
  dsimp only
  rw [record]

/-! ### The length of a record's fetch layout (R172) -/

theorem timeField_length (t : TimeStamp) : (timeField t).length = 4 := by
  rcases t with _ | ⟨day, minute⟩ <;> simp [timeField]

theorem remarksField_length (remarks : List Byte) : (remarksField remarks).length = 5 := by
  simp [remarksField]

theorem recordField_length (r : StrataRecord) : (recordField r).length = 51 := by
  simp only [recordField, bodyField, List.length_append, be_length, timeField_length, remarksField_length]

end

end Sys2Proof.Machine

namespace Sys2Proof

open Machine

/-- Settles O47: the close as one equation, and its figures by what the baseline is. -/
theorem closesWriteRecords : Obligations.ClosesWriteRecords := by
  unfold Obligations.ClosesWriteRecords
  intro bottom depth kind s
  dsimp only
  rw [State.closeInterval_eq, ← Interval.parts_eq]
  refine ⟨rfl, fun whole => ?_, fun lower split => ?_, rfl, rfl, rfl, rfl, rfl, rfl, rfl, rfl, rfl, rfl, rfl, rfl, rfl,
    fun none => if_pos none, fun some => meanRop_bounds _ some, fun unheard => ?_, fun a heard unbased => ?_,
    fun a b heard based => ?_⟩
  · rw [State.closedParts, whole]
    rfl
  · rw [State.closedParts, split]
    rfl
  · have figures := State.mudFigures_unheard unheard
    exact ⟨congrArg MudFigures.gain figures, congrArg MudFigures.loss figures,
      (congrArg (fun m : MudFigures => s.log.current.flags.mudGap || m.gap) figures).trans (Bool.or_true _)⟩
  · have figures := State.mudFigures_unbased heard unbased
    exact ⟨congrArg MudFigures.gain figures, congrArg MudFigures.loss figures,
      (congrArg (fun m : MudFigures => s.log.current.flags.mudGap || m.gap) figures).trans (Bool.or_true _)⟩
  · have figures := State.mudFigures_based heard based
    refine ⟨congrArg MudFigures.gain figures, congrArg MudFigures.loss figures, ?_⟩
    show (s.log.current.flags.mudGap || s.mudFigures.gap) = true ↔ _
    rw [figures]
    simp [or_assoc]

/-- Settles O48: each request by its checks, the scan by the record it stands at. -/
theorem storeRequestsAreTaken : Obligations.StoreRequestsAreTaken := by
  unfold Obligations.StoreRequestsAreTaken
  intro n form sequence r s
  dsimp only
  refine ⟨fun acts => ?_, fun active => ?_, fun p => rfl, fun p whole record => ?_, exec_verifyScanStep_rests,
    fun p flies position record => ?_, recordField_length r⟩
  · rw [exec_trim n acts, exec_verify acts]
    refine ⟨fun flies => ⟨?_, ?_⟩, fun rests bad => ?_, fun rests some most => ?_, fun rests empty => ?_,
      fun rests stored => ?_⟩
    · rw [trimRequest, if_pos flies]
      rfl
    · rw [verifyRequest, if_pos flies]
      rfl
    · rw [trimRequest_bad rests bad]
      rfl
    · rw [trimRequest_good rests some most]
      rfl
    · have none : be 2 s.log.store.length = [0#8, 0#8] := by rw [empty]; rfl
      rw [verifyRequest, if_neg rests, State.beginScan_empty empty, none]
      rfl
    · rw [verifyRequest, if_neg rests, State.beginScan_store stored]
      rfl
  · rw [exec_fetchRecord form sequence active]
    refine ⟨fun large => ?_, fun small missing => ?_, fun small record => ?_⟩
    · rw [fetchRecordRequest, fetchNumber_bad sequence _ large]
      rfl
    · rw [fetchRecordRequest_of_number (fetchNumber_good sequence s.log small), missing]
      rfl
    · rw [fetchRecordRequest_of_number (fetchNumber_good sequence s.log small), record]
      rfl
  · exact StrataLog.record_sequence whole record
  · rw [exec_verifyScanStep_record flies position record, State.scanRecord]
    refine ⟨fun sound last => ?_, fun sound more => ?_, fun unsound => ?_⟩
    · rw [if_pos (r.sound_iff.2 sound), if_pos last]
    · rw [if_pos (r.sound_iff.2 sound), if_neg more]
      rfl
    · rw [if_neg (mt r.sound_iff.1 unsound)]

end Sys2Proof
end

section
/-! SUPPORT. Jobs opened, suspended and closed, and the baselines they start from (chapter 10), for O49. -/

namespace Sys2Proof.Machine

section

variable {s : State}

/-! ### Baselines (R148) -/

theorem Freshness.heard_iff (f : Freshness) : f.heard = true ↔ f = .fresh ∨ f = .stale := by
  cases f <;> simp [Freshness.heard]

theorem heardContent_none {α : Type} : heardContent (none : Option (Slot α)) = none := rfl

theorem heardContent_slot {α : Type} (k : Slot α) :
    heardContent (some k) = if k.freshness = .fresh ∨ k.freshness = .stale then k.content else none := by
  simp only [heardContent, Freshness.heard_iff]

theorem State.freshBaselines_head (s : State) (b : Fin 4) :
    s.freshBaselines[b.val]? = some ((heardContent s.headView).map fun h => h.footage[b].toNat) := by
  match b with
  | 0 | 1 | 2 | 3 => rfl

theorem State.freshBaselines_mud (s : State) (a : Fin 4) :
    s.freshBaselines[a.val + 4]? = some ((heardContent s.mudView).map fun m => m.additives[a].toNat) := by
  match a with
  | 0 | 1 | 2 | 3 => rfl

theorem State.freshBaselines_handler (s : State) :
    s.freshBaselines[8]? = some ((heardContent s.handlerView).map (·.makeups.toNat)) := rfl

theorem State.headView_owned {st : Station} (owner : s.owner .head = some st) : s.headView = some s.peers[st].head := by
  rw [headView, owner]
  rfl

theorem State.mudView_owned {st : Station} (owner : s.owner .mud = some st) : s.mudView = some s.peers[st].mud := by
  rw [mudView, owner]
  rfl

theorem State.handlerView_owned {st : Station} (owner : s.owner .handler = some st) :
    s.handlerView = some s.peers[st].handler := by
  rw [handlerView, owner]
  rfl

theorem State.headView_unowned (unowned : s.owner .head = none) : s.headView = none := by
  rw [headView, unowned]
  rfl

theorem State.mudView_unowned (unowned : s.owner .mud = none) : s.mudView = none := by
  rw [mudView, unowned]
  rfl

theorem State.handlerView_unowned (unowned : s.owner .handler = none) : s.handlerView = none := by
  rw [handlerView, unowned]
  rfl

/-! ### Requests (R148 to R151) -/

theorem exec_cabRequest {i : Instr} {f : State → Answered} (request : exec i s = answered i (s.runningRequest .cab f))
    (acts : s.acts .cab = true) : exec i s = answered i (f s) := by
  rw [request, State.runningRequest_acting f acts]

theorem openJobRequest_busy {number : BitVec 16} (some : number ≠ 0#16)
    (busy : s.meter.job.state = .opened ∨ s.meter.job.state = .suspended) :
    openJobRequest number s = s.refused .badState := by
  rw [openJobRequest, if_neg some, if_pos busy]

theorem openJobRequest_unread {number : BitVec 16} (some : number ≠ 0#16) (closed : s.meter.job.state = .closed)
    (unread : s.meter.job.summaryRead = false) : openJobRequest number s = s.refused .summaryUnread := by
  rw [openJobRequest, if_neg some, if_neg (by simp [closed]), if_pos ⟨closed, by simp [unread]⟩]

theorem openJobRequest_good {number : BitVec 16} (some : number ≠ 0#16)
    (free : s.meter.job.state = .noJob ∨ (s.meter.job.state = .closed ∧ s.meter.job.summaryRead = true)) :
    openJobRequest number s = (okWith (be 2 number.toNat ++ be 1 (s.freshBaselines.toList.countP Option.isNone)),
      s.mapJob fun _ => s.openedJob number.toNat) := by
  rw [openJobRequest, if_neg some, if_neg, if_neg]
  · rcases free with none | ⟨-, read⟩
    · simp [none]
    · simp [read]
  · rcases free with none | ⟨closed, -⟩
    · simp [none]
    · simp [closed]

theorem exec_fetchSummary (active : s.active .cab = true) :
    exec .fetchSummary s = answered .fetchSummary (fetchSummaryRequest s) := by
  simp only [State.active, Bool.and_eq_true, Bool.not_eq_true'] at active
  exact congrArg (answered _) (State.roleRequest_active s .cab _ active.1 active.2)

end

end Sys2Proof.Machine

namespace Sys2Proof

open Machine

/-- Settles O49: each request by the job's state, each baseline by its owner view. -/
theorem jobsOpenAndClose : Obligations.JobsOpenAndClose := by
  unfold Obligations.JobsOpenAndClose
  intro number s
  dsimp only
  refine ⟨fun acts => ⟨fun zero => ?_, fun some busy => ?_, fun some closed unread => ?_, fun some free => ?_,
    fun opened => ?_, fun other => ?_, fun suspended => ?_, fun other => ?_, fun busy => ?_, fun idle => ?_⟩,
    fun active => ⟨fun closed => ?_, fun other => ?_⟩, fun h b heard => ?_, fun m a heard => ?_, fun h heard => ?_,
    fun b unheard => ?_, fun a unheard => ?_, fun unheard => ?_, fun unowned => ?_, fun unowned => ?_,
    fun unowned => ?_, fun st => ⟨fun owner => ?_, fun owner => ?_, fun owner => ?_⟩⟩
  · rw [exec_cabRequest rfl acts, openJobRequest, if_pos zero]
    rfl
  · rw [exec_cabRequest rfl acts, openJobRequest_busy some busy]
    rfl
  · rw [exec_cabRequest rfl acts, openJobRequest_unread some closed unread]
    rfl
  · rw [exec_cabRequest rfl acts, openJobRequest_good some free]
    rfl
  · rw [exec_cabRequest rfl acts, jobStateRequest, if_pos opened]
    rfl
  · rw [exec_cabRequest rfl acts, jobStateRequest, if_neg other]
    rfl
  · rw [exec_cabRequest rfl acts, jobStateRequest, if_pos suspended]
    rfl
  · rw [exec_cabRequest rfl acts, jobStateRequest, if_neg other]
    rfl
  · rw [exec_cabRequest rfl acts, closeJobRequest, if_pos busy]
    rfl
  · rw [exec_cabRequest rfl acts, closeJobRequest, if_neg idle]
    rfl
  · rw [exec_fetchSummary active, fetchSummaryRequest, if_neg (by simp [closed])]
    rfl
  · rw [exec_fetchSummary active, fetchSummaryRequest, if_pos other]
    rfl
  · rw [s.freshBaselines_head b, heard]
    rfl
  · rw [s.freshBaselines_mud a, heard]
    rfl
  · rw [s.freshBaselines_handler, heard]
    rfl
  · rw [s.freshBaselines_head b, unheard]
    rfl
  · rw [s.freshBaselines_mud a, unheard]
    rfl
  · rw [s.freshBaselines_handler, unheard]
    rfl
  · rw [State.headView_unowned unowned, heardContent_none]
  · rw [State.mudView_unowned unowned, heardContent_none]
  · rw [State.handlerView_unowned unowned, heardContent_none]
  · rw [State.headView_owned owner, heardContent_slot]
  · rw [State.mudView_owned owner, heardContent_slot]
  · rw [State.handlerView_owned owner, heardContent_slot]

end Sys2Proof
end

section
/-! SUPPORT. The counters of owner arrivals at the job meter (chapter 10), for O51. -/

namespace Sys2Proof.Machine

section

variable {s : State} {n : Fin 9} {value last : Nat} {standing : Bool} {gap : JobFlags → JobFlags}
  {paid : Nat → State → State}

theorem State.asCab_inactive {s : State} (f : CabConfig → State) (still : s.acts .cab = false) : s.asCab f = s :=
  if_neg (by simp [still])

theorem State.asCab_acting {s : State} {c : CabConfig} (f : CabConfig → State) (acts : s.acts .cab = true)
    (group : s.node.cab = some c) : s.asCab f = f c := by
  rw [asCab, if_pos acts, group]

/-! ### One counter against its baseline (R156) -/

theorem State.readCounter_suspended (state : s.meter.job.state = .suspended) :
    s.readCounter n value standing gap paid = s.mapJob (·.seen n value) := by
  rw [readCounter, state]

theorem State.readCounter_none (state : s.meter.job.state = .noJob ∨ s.meter.job.state = .closed) :
    s.readCounter n value standing gap paid = s := by
  rcases state with state | state <;> rw [readCounter, state]

theorem State.readCounter_pending (state : s.meter.job.state = .opened) (pending : s.meter.job.baselines[n] = none) :
    s.readCounter n value standing gap paid = s.mapJob (·.seen n value) := by
  rw [readCounter, state]
  dsimp only
  rw [pending]

theorem State.readCounter_opened (state : s.meter.job.state = .opened) (baseline : s.meter.job.baselines[n] = some last) :
    s.readCounter n value standing gap paid =
      if value < last then s.mapJob fun j => { j with flags := gap j.flags }.seen n value
      else if value = last ∨ standing then s
      else (paid (value - last) s).mapJob (·.seen n value) := by
  rw [readCounter, state]
  dsimp only
  rw [baseline]

theorem State.readCounter_back (state : s.meter.job.state = .opened) (baseline : s.meter.job.baselines[n] = some last)
    (back : value < last) :
    s.readCounter n value standing gap paid = s.mapJob fun j => { j with flags := gap j.flags }.seen n value := by
  rw [State.readCounter_opened state baseline, if_pos back]

theorem State.readCounter_stands (state : s.meter.job.state = .opened) (baseline : s.meter.job.baselines[n] = some last)
    (onward : last ≤ value) (stands : value = last ∨ standing = true) :
    s.readCounter n value standing gap paid = s := by
  rw [State.readCounter_opened state baseline, if_neg (Nat.not_lt.2 onward), if_pos stands]

theorem State.readCounter_grown (state : s.meter.job.state = .opened) (baseline : s.meter.job.baselines[n] = some last)
    (grown : last < value) (read : standing = false) :
    s.readCounter n value standing gap paid = (paid (value - last) s).mapJob (·.seen n value) := by
  rw [State.readCounter_opened state baseline, if_neg (Nat.not_lt.2 (Nat.le_of_lt grown)), if_neg]
  rintro (same | stands)
  · exact absurd same (Nat.ne_of_gt grown)
  · simp [read] at stands

/-! ### Footage (R157, R161) -/

theorem State.readFootage_unclocked {c : CabConfig} {b : Fin 4} (unset : s.clock.time = none)
    (state : s.meter.job.state = .opened) (baseline : s.meter.job.baselines[b.val] = some last) (onward : last ≤ value) :
    s.readFootage c b value = s :=
  State.readCounter_stands (n := b.castLE (by decide)) state baseline onward (.inr (by rw [unset]; rfl))

theorem State.readFootage_clocked {c : CabConfig} {b : Fin 4} {t : ClockTime} (set : s.clock.time = some t)
    (state : s.meter.job.state = .opened) (baseline : s.meter.job.baselines[b.val] = some last) (grown : last < value) :
    s.readFootage c b value =
      (s.chargeFootage c b t.minute (value - last)).mapJob (·.seen (b.castLE (by decide)) value) := by
  refine (State.readCounter_grown (n := b.castLE (by decide)) state baseline grown (by rw [set]; rfl)).trans ?_
  rw [set]

end

end Sys2Proof.Machine

namespace Sys2Proof

open Machine

/-- Settles O51: each counter by the job's state and its baseline. -/
theorem countersAreRead : Obligations.CountersAreRead := by
  unfold Obligations.CountersAreRead
  intro n value last growth minute b k c standing gap paid h m a s
  dsimp only
  exact ⟨State.asCab_inactive _, fun acts group => ⟨State.asCab_acting _ acts group, State.asCab_acting _ acts group,
      State.asCab_acting _ acts group⟩, rfl, rfl, State.readFootage_unclocked, fun t set => State.readFootage_clocked set,
    rfl, rfl, rfl, State.readCounter_suspended, State.readCounter_none, State.readCounter_pending,
    fun state baseline => ⟨State.readCounter_back state baseline,
      fun same => State.readCounter_stands state baseline (Nat.le_of_eq same.symm) (.inl same),
      fun grown stands => State.readCounter_stands state baseline (Nat.le_of_lt grown) (.inr stands),
      State.readCounter_grown state baseline⟩⟩

end Sys2Proof
end

section
/-! SUPPORT. Charges, tariff windows, the second step and the activity class (chapter 10), for O50. -/

namespace Sys2Proof.Machine

/-! ### A charge made or refused (R160) -/

section

variable {s : State} {i : Account} {mills : Nat}

/-- Both accumulators of a charge can take it. -/
def JobRecord.fits (j : JobRecord) (i : Account) (mills : Nat) : Prop :=
  j.accumulators[i.castSucc].saturated = false ∧ j.accumulators[17].saturated = false ∧
    j.accumulators[i.castSucc].mills + mills ≤ 2 ^ 47 - 1 ∧ j.accumulators[17].mills + mills ≤ 2 ^ 47 - 1

theorem JobRecord.canCharge_iff (j : JobRecord) (i : Account) (mills : Nat) : j.canCharge i mills = true ↔ j.fits i mills := by
  simp only [canCharge, Accumulator.takes, Bool.and_eq_true, Bool.not_eq_true', decide_eq_true_eq, fits]
  constructor
  · rintro ⟨⟨unmarked, low⟩, total, totalLow⟩
    exact ⟨unmarked, total, low, totalLow⟩
  · rintro ⟨unmarked, total, low, totalLow⟩
    exact ⟨⟨unmarked, low⟩, total, totalLow⟩

theorem Accumulator.charged_eq {x : Accumulator} (mills : Nat) (unmarked : x.saturated = false) :
    x.charged mills = ⟨x.mills + mills, false⟩ := by
  rw [charged, unmarked]

theorem State.charge_made (made : JobRecord → JobRecord) (fits : s.meter.job.fits i mills) :
    s.charge i mills made = s.mapJob fun j => made { j with
      accumulators := put (put j.accumulators i.castSucc ⟨j.accumulators[i.castSucc].mills + mills, false⟩) 17
        ⟨j.accumulators[17].mills + mills, false⟩ } := by
  have taken := (s.meter.job.canCharge_iff i mills).2 fits
  obtain ⟨unmarked, total, -, -⟩ := fits
  rw [charge, if_pos taken]
  refine congrArg (fun j' => ({ s with meter := { s.meter with job := made j' } } : State)) ?_
  rw [JobRecord.mapCharge, Accumulator.charged_eq mills unmarked, JobRecord.total, Accumulator.charged_eq mills total]

theorem State.charge_refused (made : JobRecord → JobRecord) (refused : ¬s.meter.job.fits i mills) :
    s.charge i mills made = (s.mapJob fun j => j.mapCharge i (·.refused mills)).raise .accumSaturated :=
  if_neg (mt (s.meter.job.canCharge_iff i mills).1 refused)

/-! ### ADD_CHARGE (R159) -/

theorem addChargeRequest_bad {amount : BitVec 32} (bad : amount = 0#32 ∨ 1000000 < amount.toNat) :
    addChargeRequest amount s = (badValue 1, s) :=
  if_pos (bad.imp_left fun zero => by rw [zero]; rfl)

theorem addChargeRequest_closed {amount : BitVec 32} (some : 0 < amount.toNat) (most : amount.toNat ≤ 1000000)
    (closed : s.meter.job.state ≠ .opened) : addChargeRequest amount s = s.refused .badState :=
  (if_neg (by omega)).trans (if_pos closed)

theorem addChargeRequest_opened {amount : BitVec 32} (some : 0 < amount.toNat) (most : amount.toNat ≤ 1000000)
    (opened : s.meter.job.state = .opened) :
    addChargeRequest amount s =
      if s.meter.job.canCharge adjustmentAccount (amount.toNat * 1000) then
        (okWith (be 6 (s.charge adjustmentAccount (amount.toNat * 1000) id).meter.job.accumulators[16].mills),
          s.charge adjustmentAccount (amount.toNat * 1000) id)
      else (refuse .accumSaturated, s.charge adjustmentAccount (amount.toNat * 1000) id) :=
  (if_neg (by omega)).trans (if_neg (by simp [opened]))

theorem State.charge_adjustment (fits : s.meter.job.fits 16 mills) :
    (s.charge 16 mills id).meter.job.accumulators[16].mills = s.meter.job.accumulators[16].mills + mills := by
  rw [State.charge_made id fits]
  change (put (put s.meter.job.accumulators 16 _) 17 _)[(16 : Fin 18)].mills = _
  rw [put_get_other _ _ _ _ (by decide), put_get_same]
  rfl

/-! ### The second step (R154, R155, R161, R163) -/

theorem exec_secondStep_acting {c : CabConfig} (acts : s.acts .cab = true) (group : s.node.cab = some c) :
    exec .secondStep s = .next { (s.takeClass c s.stepMinute).elapsedSecond c with
      timers := { s.timers with second := some (s.now + 125000) }, clock := { s.clock with lastMinute := none } } := by
  refine congrArg Host.Outcome.next ((State.asCab_acting _ acts group).trans ?_)
  simp only [State.elapsedSecond_frame, State.takeClass_frame, State.now]
  rfl

theorem exec_secondStep_idle (idle : s.acts .cab = false ∨ s.node.cab = none) : exec .secondStep s = .next s := by
  refine congrArg Host.Outcome.next ?_
  rcases idle with still | unset
  · exact State.asCab_inactive _ still
  · rw [State.asCab, unset]
    exact ite_self _

theorem State.elapsedSecond_unopened (c : CabConfig) (other : s.meter.job.state ≠ .opened) : s.elapsedSecond c = s :=
  if_neg other

theorem State.elapsedSecond_unclocked (c : CabConfig) (opened : s.meter.job.state = .opened) (unset : s.stepMinute = none) :
    s.elapsedSecond c = s.mapJob JobRecord.unclocked := by
  rw [elapsedSecond, if_pos opened, unset]

theorem State.elapsedSecond_clocked {minute : Nat} (c : CabConfig) (opened : s.meter.job.state = .opened)
    (set : s.stepMinute = some minute) : s.elapsedSecond c = s.chargeSecond c s.meter.activity minute := by
  rw [elapsedSecond, if_pos opened, set]

theorem State.stepMinute_unset (unset : s.clock.time = none) : s.stepMinute = none := by
  rw [stepMinute, unset]
  rfl

theorem State.stepMinute_advanced {t : ClockTime} {before : Nat} (set : s.clock.time = some t)
    (last : s.clock.lastMinute = some (s.now, before)) : s.stepMinute = some before := by
  rw [stepMinute, set, Option.map_some, secondMinute, last]
  exact congrArg some (if_pos rfl)

theorem State.stepMinute_shown {t : ClockTime} (set : s.clock.time = some t)
    (other : ∀ before, s.clock.lastMinute ≠ some (s.now, before)) : s.stepMinute = some t.minute := by
  rw [stepMinute, set, Option.map_some, secondMinute]
  refine congrArg some ?_
  split
  case h_1 instant minute last =>
    exact if_neg fun now => other minute (by rw [last, now])
  case h_2 => rfl

end

/-! ### Tariff windows (R153) -/

section

variable {c : CabConfig} {minute : Nat} {before after : List TariffWindow} {w : TariffWindow}

/-- The windows with their numbers, from 1. -/
def CabConfig.numbered (c : CabConfig) : List (Nat × TariffWindow) := (c.windows.zipIdx 1).map fun p => (p.2, p.1)

theorem CabConfig.inForce_of_windowAt {n : Nat} (found : c.windowAt minute = some (n, w)) :
    c.inForce minute = (n, w.multiplier) := by
  rw [inForce, multiplierAt, found]
  rfl

theorem CabConfig.windowAt_none (none : c.windows = []) : c.windowAt minute = Option.none := by
  rw [windowAt, none]
  rfl

theorem CabConfig.numbered_split (split : c.windows = before ++ w :: after) :
    c.numbered = (before.zipIdx 1).map (fun p => (p.2, p.1)) ++
      (before.length + 1, w) :: (after.zipIdx (before.length + 2)).map fun p => (p.2, p.1) := by
  rw [numbered, split, List.zipIdx_append, List.map_append, List.zipIdx_cons, List.map_cons, Nat.add_comm 1]

theorem CabConfig.windowAt_eq (c : CabConfig) (minute : Nat) :
    c.windowAt minute = ((c.numbered.filter fun p => decide (p.2.start ≤ minute)).getLast?).or c.numbered.getLast? := by
  unfold windowAt numbered
  dsimp only
  split
  case h_1 p found => rw [found, Option.some_or]
  case h_2 none => rw [none, Option.none_or]

theorem CabConfig.filter_unstarted {l : List TariffWindow} {n : Nat} (later : ∀ x ∈ l, minute < x.start) :
    ((l.zipIdx n).map fun p => (p.2, p.1)).filter (fun p => decide (p.2.start ≤ minute)) = [] := by
  rw [List.filter_eq_nil_iff]
  intro p inside
  obtain ⟨q, member, rfl⟩ := List.mem_map.1 inside
  have listed : q.1 ∈ l := List.fst_mem_of_mem_zipIdx member
  simpa using later q.1 listed

theorem CabConfig.windowAt_latest (split : c.windows = before ++ w :: after) (started : w.start ≤ minute)
    (later : ∀ x ∈ after, minute < x.start) : c.windowAt minute = some (before.length + 1, w) := by
  rw [windowAt_eq, numbered_split split, List.filter_append, List.filter_cons_of_pos (by simpa using started),
    filter_unstarted later, List.getLast?_concat, Option.some_or]

theorem CabConfig.windowAt_last (split : c.windows = before ++ [w]) (later : ∀ x ∈ c.windows, minute < x.start) :
    c.windowAt minute = some (before.length + 1, w) := by
  have unstarted : c.numbered.filter (fun p => decide (p.2.start ≤ minute)) = [] := filter_unstarted later
  rw [windowAt_eq, unstarted, List.getLast?_nil, Option.none_or, numbered_split split]
  exact List.getLast?_concat

end

/-! ### The activity class (R154) -/

section

variable {s : State}

theorem shows_iff {α : Type} (view : Option (Slot α)) (p : α → Bool) :
    shows view p = true ↔ ∃ a, lastHeard view = some a ∧ p a = true := Option.any_eq_true _ _

theorem lostTest_true_iff {α : Type} (view : Option (Slot α)) :
    lostTest view = true ↔ view = none ∨ ∃ k, view = some k ∧ (k.freshness = .unheard ∨ k.freshness = .lost) := by
  rcases view with _ | k
  · simp [lostTest]
  · simp [lostTest, or_comm]

/-- The owner view of a role that some station claims is that station's slot. -/
theorem State.view_lost_iff {α : Type} {r : Role} {view : Option (Slot α)} (slot : PeerEntry → Slot α)
    (unowned : s.owner r = none → view = none) (owned : ∀ st, s.owner r = some st → view = some (slot s.peers[st]))
    (fresh : ∀ e : PeerEntry, (slot e).freshness = e.freshness (.announce r)) :
    lostTest view = true ↔ s.owner r = none ∨ ∃ st, s.owner r = some st ∧
      (s.peers[st].freshness (.announce r) = .unheard ∨ s.peers[st].freshness (.announce r) = .lost) := by
  rw [lostTest_true_iff]
  rcases claim : s.owner r with _ | st
  · simp [unowned claim]
  · simp [owned st claim, fresh]

theorem State.someViewLost_iff (s : State) :
    s.someViewLost = true ↔ ∃ r : Role, r ≠ .cab ∧ (s.owner r = none ∨ ∃ st, s.owner r = some st ∧
      (s.peers[st].freshness (.announce r) = .unheard ∨ s.peers[st].freshness (.announce r) = .lost)) := by
  have mud := s.view_lost_iff (·.mud) mudView_unowned (fun _ => mudView_owned) fun _ => rfl
  have handler := s.view_lost_iff (·.handler) handlerView_unowned (fun _ => handlerView_owned) fun _ => rfl
  have head := s.view_lost_iff (·.head) headView_unowned (fun _ => headView_owned) fun _ => rfl
  rw [someViewLost, Bool.or_eq_true, Bool.or_eq_true, mud, handler, head]
  constructor
  · rintro ((lost | lost) | lost)
    · exact ⟨.mud, nofun, lost⟩
    · exact ⟨.handler, nofun, lost⟩
    · exact ⟨.head, nofun, lost⟩
  · rintro ⟨_ | _ | _ | _, other, lost⟩
    · exact .inl (.inl lost)
    · exact .inl (.inr lost)
    · exact .inr lost
    · exact absurd rfl other

/-- The head shows the bit on bottom. -/
def State.drilling (s : State) : Prop := ∃ h, lastHeard s.headView = some h ∧ h.onBottom = true

/-- The handler has stands left to handle. -/
def State.tripping (s : State) : Prop := ∃ h, lastHeard s.handlerView = some h ∧ h.remaining ≠ 0#8

/-- The handler runs a cycle. -/
def State.connecting (s : State) : Prop := ∃ h, lastHeard s.handlerView = some h ∧ h.kind ≠ CycleKind.bits .none

/-- The circulation primes or runs. -/
def State.flowing (s : State) : Prop := ∃ m, lastHeard s.mudView = some m ∧
  (m.circ = CircState.bits .priming ∨ m.circ = CircState.bits .circulating)

open Classical in
theorem State.activityClass_eq (s : State) :
    s.activityClass = if s.held then .held else if s.someViewLost then .down else if s.drilling then .drilling
      else if s.tripping then .tripping else if s.connecting then .connecting
      else if s.flowing then .circulating else .standby := by
  have stands (b : Byte) : 0 < b.toNat ↔ b ≠ 0#8 := by bv_omega
  simp only [activityClass, shows_iff, decide_eq_true_eq, stands, bne_iff_ne, Bool.or_eq_true, beq_iff_eq,
    drilling, tripping, connecting, flowing]
  congr

end

end Sys2Proof.Machine

namespace Sys2Proof

open Machine

/-- Settles O50: charges by what the accumulators take, windows by the last that has started, the class by its first line. -/
theorem chargesAreMade : Obligations.ChargesAreMade := by
  unfold Obligations.ChargesAreMade
  intro amount mills minute i a c made s
  dsimp only
  refine ⟨fun acts => ⟨fun bad => ?_, fun some most closed => ?_, fun some most opened its => ?_, fun group => ?_⟩,
    exec_secondStep_idle, fun fits => State.charge_made made fits, fun refused => State.charge_refused made refused,
    fun x => rfl, State.elapsedSecond_unopened c, State.elapsedSecond_unclocked c, State.elapsedSecond_clocked c,
    State.stepMinute_unset, fun t set => ⟨fun before => State.stepMinute_advanced set, State.stepMinute_shown set⟩,
    rfl, rfl, fun none => ?_, fun before w after split => ⟨fun started later => ?_, fun last later => ?_⟩,
    fun held => if_pos held, fun calm => ?_⟩
  · rw [exec_cabRequest rfl acts, addChargeRequest_bad bad]
    rfl
  · rw [exec_cabRequest rfl acts, addChargeRequest_closed some most closed]
    rfl
  · subst its
    rw [exec_cabRequest rfl acts, addChargeRequest_opened some most opened]
    refine ⟨fun fits => ?_, fun refused => ?_⟩
    · rw [if_pos (show s.meter.job.canCharge adjustmentAccount _ = true from (JobRecord.canCharge_iff _ _ _).2 fits)]
      exact congrArg (fun total => Host.Outcome.next (State.replied _ _ ⟨.ok, be 6 total⟩)) (State.charge_adjustment fits)
    · rw [if_neg (show ¬s.meter.job.canCharge adjustmentAccount _ = true from
        mt (JobRecord.canCharge_iff _ _ _).1 refused)]
      rfl
  · exact exec_secondStep_acting acts group
  · rw [CabConfig.inForce, CabConfig.multiplierAt, CabConfig.windowAt_none none]
    rfl
  · exact CabConfig.inForce_of_windowAt (CabConfig.windowAt_latest split started later)
  · subst last
    exact CabConfig.inForce_of_windowAt (CabConfig.windowAt_last split later)
  · rw [← State.someViewLost_iff, State.activityClass_eq, if_neg (by simp [calm])]
    refine ⟨fun lost => if_pos lost, fun heard => ?_⟩
    rw [if_neg heard]
    refine ⟨fun on => if_pos on, fun off trip => ?_, fun off still turn => ?_, fun off still free flow => ?_,
      fun off still free stop => ?_⟩
    · exact (if_neg off).trans (if_pos trip)
    · exact (if_neg off).trans ((if_neg still).trans (if_pos turn))
    · exact (if_neg off).trans ((if_neg still).trans ((if_neg free).trans (if_pos flow)))
    · exact (if_neg off).trans ((if_neg still).trans ((if_neg free).trans (if_neg stop)))

end Sys2Proof
end

section
/-! SUPPORT. START and LISTEN entry (chapter 12), for O26. -/

namespace Sys2Proof.Machine

section

variable {s : State} {own : Station}

/-! ### Yields before RUNNING -/

/-- What a yield before RUNNING leaves, if it happens. -/
def State.givesUp (happens : Bool) (s : State) : Role → State
  | .mud => { s with
      node := { s.node with yielded := { s.node.yielded with mud := s.node.yielded.mud || happens } }
      link := { s.link with due := { s.link.due with mud := s.link.due.mud && !happens } }
      causes := s.causes ||| if happens = true then causeBit .roleYielded else 0#32
      timers := { s.timers with balance := if happens = true then none else s.timers.balance } }
  | .handler => { s with
      node := { s.node with yielded := { s.node.yielded with handler := s.node.yielded.handler || happens } }
      link := { s.link with due := { s.link.due with handler := s.link.due.handler && !happens } }
      causes := s.causes ||| if happens = true then causeBit .roleYielded else 0#32 }
  | .head => { s with
      node := { s.node with yielded := { s.node.yielded with head := s.node.yielded.head || happens } }
      link := { s.link with due := { s.link.due with head := s.link.due.head && !happens } }
      causes := s.causes ||| if happens = true then causeBit .roleYielded else 0#32
      timers := { s.timers with
        rop := if happens = true then none else s.timers.rop
        scan := if happens = true then none else s.timers.scan }
      log := if happens = true then { s.log with scan := s.log.scan.abandoned, onBottom := false } else s.log }
  | .cab => { s with
      node := { s.node with yielded := { s.node.yielded with cab := s.node.yielded.cab || happens } }
      link := { s.link with due := { s.link.due with cab := s.link.due.cab && !happens } }
      causes := s.causes ||| if happens = true then causeBit .roleYielded else 0#32
      timers := { s.timers with second := if happens = true then none else s.timers.second } }

theorem State.givesUp_false (s : State) (r : Role) : s.givesUp false r = s := by
  cases r <;> simp [State.givesUp]

theorem State.givesUp_running (happens : Bool) (s : State) (r : Role) : (s.givesUp happens r).running = s.running := by
  cases r <;> rfl

theorem State.givesUp_yields (happens : Bool) (s : State) (r q : Role) :
    (s.givesUp happens r).yields q = (s.yields q || (decide (r = q) && happens)) := by
  cases r <;> cases q <;> simp [State.yields, State.givesUp, RoleSet.has]

theorem State.givesUp_active (happens : Bool) (s : State) {r q : Role} (other : r ≠ q) :
    (s.givesUp happens r).active q = s.active q := by
  have holds : (s.givesUp happens r).holdsRole q = s.holdsRole q := by cases r <;> rfl
  rw [State.active, State.active, holds, State.givesUp_yields, decide_eq_false other, Bool.false_and, Bool.or_false]

theorem State.yieldRole_waiting (r : Role) (waits : s.running = false) : s.yieldRole r = s.givesUp (s.active r) r := by
  unfold State.yieldRole
  by_cases active : s.active r = true
  · rw [if_pos active, active]
    cases r
    case handler =>
      refine (if_neg (show ¬s.running = true from by simp [waits])).trans ?_
      simp [State.givesUp, State.raise, RoleSet.insert, Due.drop]
    all_goals simp [State.givesUp, State.raise, State.stopWork, RoleSet.insert, Due.drop]
  · rw [if_neg active, Bool.eq_false_iff.2 active, State.givesUp_false]

theorem State.yieldIf_waiting (claimed : Bool) (r : Role) (waits : s.running = false) :
    (if claimed then s.yieldRole r else s) = s.givesUp (s.active r && claimed) r := by
  rw [State.yieldRole_waiting r waits]
  cases claimed
  · simp [State.givesUp_false]
  · simp

theorem State.yieldRoles_waiting (claimed : Role → Bool) (waits : s.running = false) :
    s.yieldRoles claimed =
      (((s.givesUp (s.active .mud && claimed .mud) .mud).givesUp (s.active .handler && claimed .handler) .handler).givesUp
        (s.active .head && claimed .head) .head).givesUp (s.active .cab && claimed .cab) .cab := by
  rw [State.yieldRoles_eq]
  dsimp only
  rw [State.yieldIf_waiting _ .mud waits, State.yieldIf_waiting _ .handler, State.yieldIf_waiting _ .head,
    State.yieldIf_waiting _ .cab]
  · simp [State.givesUp_active]
  all_goals simp only [State.givesUp_running, waits, State.yieldIf_waiting]

/-- The causes of the four yields in turn. -/
theorem causes_of_yields (causes : BitVec 32) (r : RoleSet) :
    (((causes ||| if r.mud = true then causeBit .roleYielded else 0#32) |||
      if r.handler = true then causeBit .roleYielded else 0#32) |||
      if r.head = true then causeBit .roleYielded else 0#32) |||
      (if r.cab = true then causeBit .roleYielded else 0#32) =
    causes ||| if r = .empty then 0#32 else causeBit .roleYielded := by
  obtain ⟨mud, handler, head, cab⟩ := r
  cases mud <;> cases handler <;> cases head <;> cases cab <;> simp [RoleSet.empty, BitVec.or_assoc]

/-! ### A hold entry removed -/

theorem State.setEntry_absent (s : State) (st : Station) :
    s.setEntry st none = { s with
      holds := { s.holds with others := put s.holds.others st none }
      causes := s.causes ||| if s.holds.others[st] = none then 0#32 else causeBit .holdChanged } := by
  rcases entry : s.holds.others[st] with _ | e
  · have same : put s.holds.others st none = s.holds.others := by
      rw [← entry]
      exact Vector.set_getElem_self _
    have face : (entryFace s.holds.others[st] != entryFace none) = false := by simp [entryFace, entry]
    rw [State.setEntry, face, same]
    have still : ({ s with holds := s.holds } : State) = s := rfl
    simp [State.withHolds, State.raiseIf]
  · rw [State.setEntry_none entry]
    rfl

/-! ### LISTEN entry (R177) -/

/-- The roles that a lower station claims at LISTEN entry. -/
def State.claimedUnder (s : State) (own : Station) (r : Role) : Bool :=
  s.holdsRole r && stations.any fun st => decide (st < own) && s.peers[st].claims r

/-- The roles yielded at LISTEN entry. -/
def State.yieldedUnder (s : State) (own : Station) : RoleSet :=
  ⟨s.claimedUnder own .mud, s.claimedUnder own .handler, s.claimedUnder own .head, s.claimedUnder own .cab⟩

/-- LISTEN as it is entered, but for the verify scan. -/
def State.listening (s : State) (own : Station) : State :=
  let y := s.yieldedUnder own
  let due := s.link.due
  { s with
    node := { s.node with state := .listen, yielded := y }
    timers := { s.timers with
      listen := some (s.now + 250000), send := some (s.now + 62500)
      balance := if y.mud = true then none else s.timers.balance
      rop := if y.head = true then none else s.timers.rop
      scan := if y.head = true then none else s.timers.scan
      second := if y.cab = true then none else s.timers.second }
    link := { s.link with due :=
      { mud := due.mud && !y.mud, handler := due.handler && !y.handler, head := due.head && !y.head
        cab := due.cab && !y.cab, presence := true } }
    holds := { s.holds with others := put s.holds.others own none }
    log := if y.head = true then { s.log with scan := s.log.scan.abandoned, onBottom := false } else s.log
    causes := (s.causes ||| if y = .empty then 0#32 else causeBit .roleYielded) |||
      if s.holds.others[own] = none then 0#32 else causeBit .holdChanged }

theorem Timers.scan_congr (t : Timers) {v w : Option Nat} (same : v = w) :
    ({ t with scan := v } : Timers) = { t with scan := w } := by rw [same]

theorem State.listening_active (s : State) (own : Station) :
    (s.listening own).active .head = (s.holdsRole .head && !s.claimedUnder own .head) := rfl

/-- The node, the timers and the PRESENCE of LISTEN, before any yield. -/
def State.inListen (s : State) : State := { s with
  node := { s.node with state := .listen, yielded := .empty }
  timers := { s.timers with listen := some (s.now + 250000), send := some (s.now + 62500) }
  link := { s.link with due := { s.link.due with presence := true } } }

theorem State.started_from (s : State) :
    s.started =
      if ((s.inListen.yieldRoles s.inListen.claimedBelow).dropOwnEntry).active .head then
        ((s.inListen.yieldRoles s.inListen.claimedBelow).dropOwnEntry).beginScan
      else (s.inListen.yieldRoles s.inListen.claimedBelow).dropOwnEntry := rfl

theorem State.inListen_active (s : State) (r : Role) : s.inListen.active r = s.holdsRole r := by
  have free : s.inListen.yields r = false := by cases r <;> rfl
  rw [State.active, free, Bool.not_false, Bool.and_true]
  rfl

theorem State.inListen_claimedBelow (station : s.station = some own) (r : Role) :
    s.inListen.claimedBelow r = stations.any fun st => decide (st < own) && s.peers[st].claims r := by
  have must (st : Station) : s.inListen.mustYieldTo st = decide (st < own) := by
    rw [State.mustYieldTo, show s.inListen.station = some own from station]
    rfl
  simp only [State.claimedBelow, must]
  rfl

theorem State.started_eq (station : s.station = some own) :
    s.started = if s.holdsRole .head && !s.claimedUnder own .head then (s.listening own).beginScan
      else s.listening own := by
  have entered : (s.inListen.yieldRoles s.inListen.claimedBelow).dropOwnEntry = s.listening own := by
    have own' : (s.inListen.yieldRoles s.inListen.claimedBelow).station = some own :=
      (State.yieldRoles_station _ _).trans station
    rw [State.dropOwnEntry, own']
    dsimp only
    rw [State.setEntry_absent, State.yieldRoles_waiting _ rfl]
    simp only [State.inListen_active, State.inListen_claimedBelow station]
    rw [State.listening, ← causes_of_yields]
    rfl
  rw [State.started_from, entered, State.listening_active]


theorem exec_start (s : State) : exec .start s = answered .start (startRequest s) := rfl

theorem State.mayStart_iff (s : State) : s.mayStart = true ↔ s.node.node ≠ none ∧
    (s.holdsRole .mud = true → s.node.mud ≠ none) ∧ (s.holdsRole .handler = true → s.node.handler ≠ none) ∧
    (s.holdsRole .head = true → s.node.head ≠ none) ∧ (s.holdsRole .cab = true → s.node.cab ≠ none) := by
  simp [State.mayStart, roleTable, Node.hasGroup, Option.isSome_iff_ne_none, Decidable.imp_iff_not_or]

end

end Sys2Proof.Machine

namespace Sys2Proof

open Machine

/-- Settles O26: LISTEN as it is entered, then the scan that an active HEAD begins. -/
theorem startEntersListen : Obligations.StartEntersListen := by
  unfold Obligations.StartEntersListen
  intro own s
  refine ⟨fun unready => ?_, fun ready station => ⟨s.started.replied .start ⟨.ok, []⟩, ?_⟩⟩
  · rw [exec_start, startRequest, if_pos (by
      rw [← State.mayStart_iff] at unready
      simpa [Decidable.imp_iff_not_or] using unready)]
    rfl
  · obtain ⟨config, may⟩ := ready
    rw [← State.mayStart_iff] at may
    refine ⟨?_, ?_⟩
    · rw [exec_start, startRequest, if_neg (by simp [config, may])]
      rfl
    rw [State.started_eq station]
    by_cases scans : (s.holdsRole .head && !s.claimedUnder own .head) = true
    · have kept : s.claimedUnder own .head ≠ true := by
        simp only [Bool.and_eq_true, Bool.not_eq_true'] at scans
        simp [scans.2]
      have log : (s.listening own).log = s.log := if_neg kept
      rw [if_pos scans]
      by_cases empty : s.log.store = []
      · rw [State.beginScan_empty (log.symm ▸ empty), log]
        refine ⟨rfl, rfl, ?_, rfl, rfl, fun still => absurd scans (Bool.eq_false_iff.1 still), fun up => absurd up kept,
          fun _ _ => rfl, fun _ stored => absurd empty stored, rfl, rfl, rfl, rfl, rfl, rfl, rfl, rfl, rfl, rfl, rfl, rfl⟩
        exact (Timers.scan_congr (s.listening own).timers ((if_pos scans).trans (if_pos empty))).symm
      · rw [State.beginScan_store (log.symm ▸ empty), log]
        refine ⟨rfl, rfl, ?_, rfl, rfl, fun still => absurd scans (Bool.eq_false_iff.1 still), fun up => absurd up kept,
          fun _ none => absurd none empty, fun _ _ => rfl, rfl, rfl, rfl, rfl, rfl, rfl, rfl, rfl, rfl, rfl, rfl, rfl⟩
        exact (Timers.scan_congr (s.listening own).timers ((if_pos scans).trans (if_neg empty))).symm
    · rw [if_neg scans]
      refine ⟨rfl, rfl, ?_, rfl, rfl, fun _ kept => if_neg (Bool.eq_false_iff.1 kept), fun up => if_pos up,
        fun scan => absurd scan scans, fun scan => absurd scan scans, rfl, rfl, rfl, rfl, rfl, rfl, rfl, rfl, rfl, rfl, rfl,
        rfl⟩
      exact (Timers.scan_congr (s.listening own).timers (if_neg scans)).symm

end Sys2Proof
end

section
/-! SUPPORT. RUNNING entry, block by block (chapter 12), for O27. -/

namespace Sys2Proof.Machine

section

variable {s u : State} {c : HeadConfig}

/-! ### HANDLER -/

/-- RUNNING, before any block's entry. -/
def State.inRunning (s : State) : State := { s with
  node := { s.node with state := .running }, timers := { s.timers with listen := none } }

theorem State.handlerEntry_frame (s : State) :
    s.handlerEntry.node = s.node ∧ s.handlerEntry.clock = s.clock ∧ s.handlerEntry.time = s.time ∧
      s.handlerEntry.timers = s.timers ∧ s.handlerEntry.pins = s.pins ∧ s.handlerEntry.peers = s.peers ∧
      s.handlerEntry.directives = s.directives ∧ s.handlerEntry.inventory = s.inventory ∧
      s.handlerEntry.circ = s.circ ∧ s.handlerEntry.bal = s.bal ∧ s.handlerEntry.depth = s.depth ∧
      s.handlerEntry.log = s.log ∧ s.handlerEntry.meter = s.meter ∧ s.handlerEntry.port = s.port := by
  unfold State.handlerEntry
  split
  · simp
  · simp only [and_self]

theorem Link.holdFramePlaced_due (k : Link) (old new : ReasonSet) : (k.holdFramePlaced old new).due = k.due := by
  have placed (f : HoldFrame) : (k.placeHold f).due = k.due := by
    unfold Link.placeHold
    split <;> rfl
  unfold Link.holdFramePlaced
  split
  · exact placed _
  · rfl

theorem State.placeReason_due (r : HoldReason) (s : State) : (s.placeReason r).link.due = s.link.due := by
  cases has : s.holds.reasons.has r
  · rw [State.placeReason_new has]
    dsimp only
    rw [Link.holdFramePlaced_due]
  · rw [State.placeReason_has has]

theorem State.handlerEntry_due (s : State) : s.handlerEntry.link.due = s.link.due := by
  unfold State.handlerEntry State.enterRecover
  split
  · split
    · rfl
    · rw [State.placeReason_due]
  · rfl

/-! ### MUD (R104, R108) -/

/-- A pump found turning by an active MUD. -/
def State.turning (s : State) (p : Pump) (u : State) : State :=
  if s.active .mud = true ∧ s.pins.pumpRun p = true then u.pumpTo p .failed else u

theorem State.turning_eq (s : State) (p : Pump) (u : State) :
    s.turning p u = { u with circ := (s.turning p u).circ, causes := (s.turning p u).causes } := by
  unfold State.turning
  split
  · rw [State.pumpTo_eq]
  · rfl

/-- The pumps found turning. -/
def State.pumpsFound (s u : State) : State := s.turning .two (s.turning .one u)

theorem State.pumpsFound_eq (s u : State) :
    s.pumpsFound u = { u with circ := (s.pumpsFound u).circ, causes := (s.pumpsFound u).causes } :=
  (s.turning_eq .two _).trans (congrArg (fun v : State =>
    { v with circ := (s.pumpsFound u).circ, causes := (s.pumpsFound u).causes }) (s.turning_eq .one u))

theorem State.pumpsAtEntry_active (active : s.active .mud = true) (pins : u.pins = s.pins) :
    u.pumpsAtEntry = s.pumpsFound u := by
  have one : (if u.pins.pump1Run then u.pumpTo .one .failed else u) = s.turning .one u := by
    simp [State.turning, active, pins, Pins.pumpRun]
  have pins' : (s.turning .one u).pins = s.pins := by rw [State.turning_eq, pins]
  unfold State.pumpsAtEntry
  dsimp only
  rw [one, pins', State.pumpsFound, State.turning.eq_1 s .two]
  simp [active, Pins.pumpRun]

theorem State.mudEntry_eq (active : u.active .mud = s.active .mud) (pins : u.pins = s.pins) :
    u.mudEntry = { u with
      circ := (s.pumpsFound u).circ, causes := (s.pumpsFound u).causes
      timers := { u.timers with
        balance := if s.active .mud = true then some (u.now + 250000) else u.timers.balance } } := by
  unfold State.mudEntry
  rw [active]
  by_cases acts : s.active .mud = true
  · rw [if_pos acts, if_pos acts, State.pumpsAtEntry_active acts pins]
    exact congrArg (fun v : State => { v with timers := { v.timers with balance := some (v.now + 250000) } })
      (s.pumpsFound_eq u)
  · rw [if_neg acts, if_neg acts]
    simp [State.pumpsFound, State.turning, acts]

theorem State.turning_pump (s : State) (p q : Pump) (u : State) :
    (s.turning p u).circ.pump q =
      if p = q ∧ s.active .mud = true ∧ s.pins.pumpRun p = true then
        { u.circ.pump p with state := .failed, timer := 0 }
      else u.circ.pump q := by
  by_cases turns : s.active .mud = true ∧ s.pins.pumpRun p = true
  · rw [State.turning, if_pos turns, State.pumpTo_eq]
    dsimp only
    rw [Circulation.pumpEntered_pump, State.pumpSet]
    by_cases same : p = q
    · subst same
      rw [Circulation.setPump_pump_same, if_pos ⟨rfl, turns⟩]
      rfl
    · have other : q = Pump.other p := by cases p <;> cases q <;> simp_all [Pump.other]
      rw [if_neg fun both => same both.1, other, Circulation.setPump_pump_other]
  · rw [State.turning, if_neg turns, if_neg fun both => turns both.2]

theorem State.pumpsFound_pump (s u : State) (q : Pump) :
    (s.pumpsFound u).circ.pump q =
      if s.active .mud = true ∧ s.pins.pumpRun q = true then { u.circ.pump q with state := .failed, timer := 0 }
      else u.circ.pump q := by
  cases q <;> simp [State.pumpsFound, State.turning_pump]

/-! ### HEAD (R122, R129, R131) -/

/-- The tracker with the deepest depth sampled. -/
def Depth.sampled (t : Depth) : Depth := { t with prevDmax := t.dmax }

theorem State.depthAtEntry_idle (idle : s.acts .head = false ∨ s.node.head = none) : s.depthAtEntry = s := by
  rcases idle with still | unset
  · exact State.asHead_inactive _ still
  · rw [State.depthAtEntry, State.asHead, unset]
    exact ite_self s

theorem State.depthAtEntry_open (acts : s.acts .head = true) (group : s.node.head = some c)
    (opened : s.pins.home = false) : s.depthAtEntry = { s with depth := s.depth.sampled } :=
  (State.asHead_acting _ acts group).trans (if_neg (by simp [opened]))

theorem State.depthAtEntry_home (acts : s.acts .head = true) (group : s.node.head = some c)
    (home : s.pins.home = true) :
    s.depthAtEntry = s.judgedAt c (State.homedDepth { s with depth := s.depth.sampled } c) :=
  (State.asHead_acting _ acts group).trans ((if_pos home).trans (State.homed_eq c { s with depth := s.depth.sampled }))

theorem State.depthAtEntry_eq (s : State) :
    s.depthAtEntry = { s with depth := s.depthAtEntry.depth, log := s.depthAtEntry.log } := by
  rcases group : s.node.head with _ | c
  · rw [State.depthAtEntry_idle (.inr group)]
  cases acts : s.acts .head
  · rw [State.depthAtEntry_idle (.inl acts)]
  cases home : s.pins.home
  · rw [State.depthAtEntry_open acts group home]
  · rw [State.depthAtEntry_home acts group home]
    rfl

theorem State.headEntry_eq (s : State) (running : s.running = true) :
    s.headEntry = { s with
      depth := s.depthAtEntry.depth, log := s.depthAtEntry.log
      timers := { s.timers with rop := if s.active .head = true then some (s.now + 250000) else s.timers.rop } } := by
  unfold State.headEntry
  split
  case isTrue active =>
    exact congrArg (fun v : State => { v with timers := { v.timers with rop := some (v.now + 250000) } }) s.depthAtEntry_eq
  case isFalse idle => rw [State.depthAtEntry_idle (.inl (by rw [State.acts, running, Bool.true_and, Bool.eq_false_iff.2 idle]))]

theorem State.homedDepth_congr (c : HeadConfig) (depth : u.depth = s.depth) (drive : u.pins.headDrive = s.pins.headDrive)
    (time : u.time = s.time) (peers : u.peers = s.peers) : u.homedDepth c = s.homedDepth c := by
  have heard : u.heardLength = s.heardLength := by
    simp only [State.heardLength, State.handlerView, State.owner, depth, peers]
  simp only [State.homedDepth, depth, drive, State.now, time, heard]

theorem State.homedDepth_unhomed (unhomed : s.depth.tracking = .unhomed) :
    s.homedDepth c = { s.depth with
      count := c.travelCount
      tracking := if s.pins.headDrive = true then .resync else .frozen
      driveRise := if s.pins.headDrive = true then some s.now else s.depth.driveRise } := by
  unfold State.homedDepth
  rw [unhomed]

/-! ### CAB (R154, R163) -/

theorem State.cabEntry_eq (s : State) :
    s.cabEntry = { s with
      meter := if s.active .cab = true then { s.meter with
          activity := s.activityClass
          window := s.clock.time.map fun t => (s.node.cab.getD noTariff).inForce t.minute }
        else s.meter
      timers := { s.timers with second := if s.active .cab = true then some (s.now + 125000) else s.timers.second } } := by
  unfold State.cabEntry
  split
  case isTrue acts =>
    rw [State.takeClass, Option.map_map]
    rfl
  case isFalse => rfl

/-! ### The whole entry -/

/-- The state after HANDLER's and MUD's entries. -/
def State.afterMud (s : State) : State :=
  let r := s.inRunning.handlerEntry
  { r with
    circ := (s.pumpsFound r).circ, causes := (s.pumpsFound r).causes
    timers := { r.timers with balance := if s.active .mud = true then some (s.now + 250000) else s.timers.balance } }

theorem State.handlerEntry_eq (s : State) :
    s.inRunning.handlerEntry = match s.seq.marker with
      | some m => if s.holdsRole .handler = true then State.placeReason .recovery { s.inRunning with
          seq := { s.seq with state := .recover, kind := m.kind, step := some m.step, slot := some m.slot
                              fault := none } }
        else s.inRunning
      | none => s.inRunning := by
  unfold State.handlerEntry State.enterRecover
  have marker : s.inRunning.seq.marker = s.seq.marker := rfl
  have held : s.inRunning.holdsRole .handler = s.holdsRole .handler := rfl
  rw [marker, held]
  rcases s.seq.marker with _ | m
  · exact ite_self _
  · rfl

theorem State.afterMud_eq (s : State) : s.inRunning.handlerEntry.mudEntry = s.afterMud := by
  obtain ⟨node, -, time, timers, pins, -⟩ := s.inRunning.handlerEntry_frame
  have active : s.inRunning.handlerEntry.active .mud = s.active .mud := by
    simp only [State.active, State.holdsRole, State.rolesHeld, State.yields, node]
    rfl
  rw [State.mudEntry_eq active pins, State.afterMud, State.now, time, timers]
  rfl

theorem State.afterMud_frame (s : State) :
    s.afterMud.node = { s.node with state := .running } ∧ s.afterMud.clock = s.clock ∧ s.afterMud.time = s.time ∧
      s.afterMud.timers = { s.timers with
        listen := none
        balance := if s.active .mud = true then some (s.now + 250000) else s.timers.balance } ∧
      s.afterMud.pins = s.pins ∧ s.afterMud.peers = s.peers ∧ s.afterMud.directives = s.directives ∧
      s.afterMud.inventory = s.inventory ∧ s.afterMud.bal = s.bal ∧ s.afterMud.depth = s.depth ∧
      s.afterMud.log = s.log ∧ s.afterMud.meter = s.meter ∧ s.afterMud.port = s.port := by
  obtain ⟨node, clock, time, timers, pins, peers, directives, inventory, -, bal, depth, log, meter, port⟩ :=
    s.inRunning.handlerEntry_frame
  refine ⟨node, clock, time, ?_, pins, peers, directives, inventory, bal, depth, log, meter, port⟩
  simp only [State.afterMud, timers]
  rfl

theorem State.afterMud_active (s : State) (r : Role) : s.afterMud.active r = s.active r := by
  obtain ⟨node, -⟩ := s.afterMud_frame
  simp only [State.active, State.holdsRole, State.rolesHeld, State.yields, node]

theorem State.enterRunning_eq (s : State) :
    s.enterRunning = { s.afterMud with
      depth := s.afterMud.depthAtEntry.depth, log := s.afterMud.depthAtEntry.log
      timers := { s.timers with
        listen := none
        balance := if s.active .mud = true then some (s.now + 250000) else s.timers.balance
        rop := if s.active .head = true then some (s.now + 250000) else s.timers.rop
        second := if s.active .cab = true then some (s.now + 125000) else s.timers.second }
      meter := if s.active .cab = true then { s.meter with
          activity := s.afterMud.activityClass
          window := s.clock.time.map fun t => (s.node.cab.getD noTariff).inForce t.minute }
        else s.meter
      link := { s.inRunning.handlerEntry.link with due :=
        { mud := s.link.due.mud || s.active .mud, handler := s.link.due.handler || s.active .handler
          head := s.link.due.head || s.active .head, cab := s.link.due.cab || s.active .cab, presence := true } } } := by
  have entered : s.enterRunning = s.afterMud.headEntry.cabEntry.allDue := by rw [← State.afterMud_eq]; rfl
  obtain ⟨node, clock, time, timers, -, -, -, -, -, -, -, meter, -⟩ := s.afterMud_frame
  have running : s.afterMud.running = true := by rw [State.running, node]; rfl
  have due : s.afterMud.link.due = s.link.due := s.inRunning.handlerEntry_due
  rw [entered, State.headEntry_eq _ running, State.cabEntry_eq, State.allDue]
  simp only [State.active, State.holdsRole, State.rolesHeld, State.yields, State.now, node, clock, time, timers, meter, due]
  rfl

end

end Sys2Proof.Machine

namespace Sys2Proof

open Machine

/-- Settles O27: the four entries in turn, each on what the ones before it leave. -/
theorem runningEntryStartsTheBlocks : Obligations.RunningEntryStartsTheBlocks := by
  unfold Obligations.RunningEntryStartsTheBlocks
  intro s running recovered turning pumped failed sampled
  have entered : s.inRunning.handlerEntry = recovered := s.handlerEntry_eq
  clear_value recovered
  refine ⟨fun other => congrArg Host.Outcome.next (if_neg other), fun listens => ⟨s.enterRunning, ?_, ?_⟩⟩
  · exact congrArg Host.Outcome.next (if_pos listens)
  have seq : s.inRunning.handlerEntry.seq = recovered.seq := congrArg State.seq entered
  have holds : s.inRunning.handlerEntry.holds = recovered.holds := congrArg State.holds entered
  have link : s.inRunning.handlerEntry.link = recovered.link := congrArg State.link entered
  have circ : (s.pumpsFound s.inRunning.handlerEntry).circ = pumped.circ := congrArg (fun r => (s.pumpsFound r).circ) entered
  have causes : (s.pumpsFound s.inRunning.handlerEntry).causes = pumped.causes :=
    congrArg (fun r => (s.pumpsFound r).causes) entered
  have pumps (q : Pump) := s.pumpsFound_pump s.inRunning.handlerEntry q
  obtain ⟨node, clock, time, timers, pins, peers, directives, inventory, bal, depth, log, meter, port⟩ := s.afterMud_frame
  obtain ⟨-, -, -, -, -, -, -, -, kept, -⟩ := s.inRunning.handlerEntry_frame
  rw [kept] at pumps
  have acts (r : Role) : s.afterMud.acts r = s.active r := by
    rw [State.acts, State.afterMud_active, State.running, node]
    rfl
  have group : s.afterMud.node.head = s.node.head := by rw [node]
  rw [State.enterRunning_eq]
  refine ⟨node, rfl, seq, holds, ?_, circ, causes, pumps .one, pumps .two, fun idle => ?_,
    fun c active configured => ?_, fun idle => if_neg (by simp [idle]),
    fun c active configured => ?_, clock, time, pins, peers, directives, inventory, bal, port⟩
  · rw [← link]
  · have still : s.afterMud.acts .head = false ∨ s.afterMud.node.head = none := by rwa [acts, group]
    rw [State.depthAtEntry_idle still]
    exact ⟨depth, log⟩
  · have acting : s.afterMud.acts .head = true := (acts _).trans active
    have configured' : s.afterMud.node.head = some c := group.trans configured
    refine ⟨fun opened => ?_, fun home unhomed => ?_, fun home => ?_⟩
    · rw [State.depthAtEntry_open acting configured' (by rw [pins, opened])]
      exact ⟨congrArg Depth.sampled depth, log⟩
    · rw [State.depthAtEntry_home acting configured' (by rw [pins, home]), State.homedDepth_unhomed (by rw [depth]; exact unhomed)]
      simp only [State.judgedAt, State.now, depth, log, pins, time, Depth.sampled]
      have waits : (if s.pins.headDrive = true then TrackingState.resync else .frozen) ≠ .tracking := by split <;> nofun
      simp only [waits, false_and, decide_false]
      exact ⟨rfl, trivial⟩
    · rw [State.depthAtEntry_home acting configured' (by rw [pins, home])]
      have drive : s.afterMud.pins.headDrive = s.pins.headDrive := congrArg Pins.headDrive pins
      let closing : State := { running with depth := s.depth.sampled, pins := { s.pins with home := true } }
      have same : State.homedDepth { s.afterMud with depth := s.afterMud.depth.sampled } c = closing.homedDepth c :=
        State.homedDepth_congr (u := { s.afterMud with depth := s.afterMud.depth.sampled }) (s := closing) c
          (congrArg Depth.sampled depth) drive time peers
      refine ⟨_, exec_homeSwitchEdge_edge (c := c) active configured nofun, ?_⟩
      rw [same, State.homed_eq]
      refine ⟨rfl, ?_⟩
      simp only [State.judgedAt, log]
      rfl
  · refine (if_pos active).trans ?_
    rw [configured]
    rfl

end Sys2Proof
end

section
/-! SUPPORT. Fields in bytes and their checks (R170, R176), for O25. -/

namespace Sys2Proof.Machine

/-! ### Fields in bytes: width, least, greatest and given value -/

/-- A field of a configuration group: its width in bytes, its least, its greatest and its given value. -/
abbrev RangedField := Nat × Nat × Nat × Nat

def fieldBytes (rs : List RangedField) : List Byte := rs.flatMap fun r => be r.1 r.2.2.2

/-- The given value lies in the range. -/
def RangedField.good (r : RangedField) : Bool := within r.2.1 r.2.2.1 r.2.2.2

theorem numAt_prefix (xs ys : List Byte) (i n : Nat) : numAt (xs ++ ys) (xs.length + i) n = numAt ys i n := by
  rw [numAt, numAt, ← List.drop_drop, List.drop_left]

theorem numAt_be {n v : Nat} (ys : List Byte) (fits : v < 256 ^ n) : numAt (be n v ++ ys) 0 n = v := by
  simp [numAt, List.take_append, List.take_of_length_le, ofBytes_be, Nat.mod_eq_of_lt fits]

theorem numAt_field {rs : List RangedField} (fits : ∀ r ∈ rs, r.2.2.2 < 256 ^ r.1) {k : Nat} {r : RangedField}
    (field : rs[k]? = some r) (more : List Byte) :
    numAt (fieldBytes rs ++ more) ((rs.take k).map (·.1)).sum r.1 = r.2.2.2 := by
  induction rs generalizing k with
  | nil => simp at field
  | cons first rest ih =>
    have bytes : fieldBytes (first :: rest) ++ more = be first.1 first.2.2.2 ++ (fieldBytes rest ++ more) :=
      List.append_assoc _ _ _
    rw [bytes]
    cases k with
    | zero =>
      obtain rfl : first = r := by simpa using field
      exact numAt_be _ (fits first List.mem_cons_self)
    | succ k =>
      have at_rest := numAt_prefix (be first.1 first.2.2.2) (fieldBytes rest ++ more) ((rest.take k).map (·.1)).sum r.1
      rw [be_length] at at_rest
      rw [List.take_succ_cons, List.map_cons, List.sum_cons, at_rest]
      exact ih (fun q inside => fits q (List.mem_cons_of_mem _ inside)) (by simpa using field)

/-- The value of a field that stands at a place of the group and begins at a byte. -/
theorem numAt_place {rs : List RangedField} (fits : ∀ r ∈ rs, r.2.2.2 < 256 ^ r.1) {i width v low high : Nat} (k : Nat)
    (field : rs[k]? = some (width, low, high, v)) (start : ((rs.map (·.1)).take k).sum = i) (more : List Byte) :
    numAt (fieldBytes rs ++ more) i width = v := by
  rw [← start, ← List.map_take]
  exact numAt_field fits field more

/-- The same of a group that nothing follows. -/
theorem numAt_group {rs : List RangedField} (fits : ∀ r ∈ rs, r.2.2.2 < 256 ^ r.1) {i width v low high : Nat} (k : Nat)
    (field : rs[k]? = some (width, low, high, v)) (start : ((rs.map (·.1)).take k).sum = i) :
    numAt (fieldBytes rs) i width = v := by
  rw [← List.append_nil (fieldBytes rs)]
  exact numAt_place fits k field start []

theorem fieldBytes_length (rs : List RangedField) : (fieldBytes rs).length = (rs.map (·.1)).sum := by
  simp [fieldBytes, List.length_flatMap]

/-! ### The first check that fails -/

theorem checksFrom_cons (f : Nat) (b : Bool) (bs : List Bool) : checksFrom f (b :: bs) = (f, b) :: checksFrom (f + 1) bs := by
  simp [checksFrom, List.zipIdx_cons]

theorem firstBad_cons (f : Nat) (b : Bool) (rest : List (Nat × Bool)) :
    firstBad ((f, b) :: rest) = if b then firstBad rest else some f := by
  cases b <;> rfl

theorem firstBad_checks (f : Nat) (b : Bool) (bs : List Bool) :
    firstBad (checksFrom f (b :: bs)) = if b then firstBad (checksFrom (f + 1) bs) else some f := by
  rw [checksFrom_cons, firstBad_cons]

theorem firstBad_good (f : Nat) {bs : List Bool} (good : ∀ b ∈ bs, b = true) : firstBad (checksFrom f bs) = none := by
  induction bs generalizing f with
  | nil => rfl
  | cons b bs ih =>
    rw [firstBad_checks, if_pos (good b List.mem_cons_self)]
    exact ih (f + 1) fun x inside => good x (List.mem_cons_of_mem _ inside)

theorem firstBad_skip (f : Nat) {before : List Bool} (after : List Bool) (good : ∀ b ∈ before, b = true) :
    firstBad (checksFrom f (before ++ after)) = firstBad (checksFrom (f + before.length) after) := by
  induction before generalizing f with
  | nil => rfl
  | cons b before ih =>
    rw [List.cons_append, firstBad_checks, if_pos (good b List.mem_cons_self), List.length_cons]
    rw [ih (f + 1) fun x inside => good x (List.mem_cons_of_mem _ inside), Nat.add_right_comm, Nat.add_assoc]

/-- A check is looked at only after all before it have passed. -/
theorem firstBad_congr_last (f : Nat) {before : List Bool} {x y : Bool} (same : (∀ b ∈ before, b = true) → x = y) :
    firstBad (checksFrom f (before ++ [x])) = firstBad (checksFrom f (before ++ [y])) := by
  induction before generalizing f with
  | nil => rw [same nofun]
  | cons b before ih =>
    rw [List.cons_append, List.cons_append, firstBad_checks, firstBad_checks]
    cases b
    · rfl
    · exact ih (f + 1) fun good => same fun b inside => (List.mem_cons.1 inside).elim id (good b)

/-- The first field out of its range. -/
def firstOut (f : Nat) (rs : List RangedField) : Option Nat := firstBad (checksFrom f (rs.map RangedField.good))

theorem RangedField.good_iff (r : RangedField) : r.good = true ↔ r.2.1 ≤ r.2.2.2 ∧ r.2.2.2 ≤ r.2.2.1 := within_iff _ _ _

theorem firstOut_none (f : Nat) {rs : List RangedField} (good : ∀ r ∈ rs, r.2.1 ≤ r.2.2.2 ∧ r.2.2.2 ≤ r.2.2.1) :
    firstOut f rs = none :=
  firstBad_good f fun b inside => by
    obtain ⟨r, member, rfl⟩ := List.mem_map.1 inside
    exact r.good_iff.2 (good r member)

theorem firstOut_some (f : Nat) {before after : List RangedField} {r : RangedField}
    (good : ∀ q ∈ before, q.2.1 ≤ q.2.2.2 ∧ q.2.2.2 ≤ q.2.2.1) (bad : ¬(r.2.1 ≤ r.2.2.2 ∧ r.2.2.2 ≤ r.2.2.1)) :
    firstOut f (before ++ r :: after) = some (f + before.length) := by
  have passed : ∀ b ∈ before.map RangedField.good, b = true := fun b inside => by
    obtain ⟨q, member, rfl⟩ := List.mem_map.1 inside
    exact q.good_iff.2 (good q member)
  rw [firstOut, List.map_append, firstBad_skip f _ passed, List.map_cons, firstBad_checks,
    if_neg (mt r.good_iff.1 bad), List.length_map]

/-! ### A group taken or refused -/

section

variable {s : State} {group : Byte} {values : List Byte}

theorem exec_configure_locked (locked : s.node.state ≠ .config) :
    exec (.configure group values) s = .next (s.replied (.configure group values) ⟨.configLocked, []⟩) :=
  congrArg (answered _) (if_pos locked)

theorem exec_configure_unknown (config : s.node.state = .config) (large : 5 ≤ group.toNat) :
    exec (.configure group values) s = .next (s.replied (.configure group values) ⟨.badValue, [1#8]⟩) := by
  have request : configureRequest group values s = (badValue 1, s) :=
    (if_neg (not_not_intro config)).trans (if_pos large)
  exact congrArg (answered _) request

theorem exec_configure_size (config : s.node.state = .config) (small : group.toNat ≤ 4)
    (size : groupSize group.toNat values ≠ some values.length) :
    exec (.configure group values) s = .next (s.replied (.configure group values) ⟨.badValue, [0#8]⟩) := by
  have request : configureRequest group values s = (badValue 0, s) :=
    (if_neg (not_not_intro config)).trans ((if_neg (by omega)).trans (if_pos size))
  exact congrArg (answered _) request

theorem configureRequest_read (config : s.node.state = .config) (small : group.toNat ≤ 4)
    (size : groupSize group.toNat values = some values.length) :
    configureRequest group values s = match s.node.configured group.toNat values with
      | .error f => (badValue f, s)
      | .ok n => (okWith [], { s with node := n }) :=
  (if_neg (not_not_intro config)).trans ((if_neg (by omega)).trans (if_neg (not_not_intro size)))

theorem exec_configure_bad {f : Nat} (config : s.node.state = .config) (small : group.toNat ≤ 4)
    (size : groupSize group.toNat values = some values.length)
    (bad : s.node.configured group.toNat values = .error f) :
    exec (.configure group values) s =
      .next (s.replied (.configure group values) ⟨.badValue, [BitVec.ofNat 8 f]⟩) := by
  have request : configureRequest group values s = (badValue f, s) := by
    rw [configureRequest_read config small size, bad]
  refine (congrArg (answered _) request).trans ?_
  have one : be 1 f = [BitVec.ofNat 8 f] := by simp [be]
  rw [badValue, one]
  rfl

theorem exec_configure_stored {n : Node} (config : s.node.state = .config) (small : group.toNat ≤ 4)
    (size : groupSize group.toNat values = some values.length)
    (good : s.node.configured group.toNat values = .ok n) :
    exec (.configure group values) s =
      .next (State.replied { s with node := n } (.configure group values) ⟨.ok, []⟩) := by
  have request : configureRequest group values s = (okWith [], { s with node := n }) := by
    rw [configureRequest_read config small size, good]
  exact congrArg (answered _) request

/-- A group stored when its checks pass, or refused with the first field that fails. -/
def configuredBy {α : Type} (bad : Option Nat) (n : α) : Except Nat α :=
  match bad with
  | some f => .error f
  | none => .ok n

/-- A group whose fields are in their ranges is stored; otherwise the first field out of range is named. -/
theorem exec_configure_ranges {rs : List RangedField} {n : Node} (config : s.node.state = .config)
    (small : group.toNat ≤ 4) (size : groupSize group.toNat values = some values.length)
    (read : s.node.configured group.toNat values = configuredBy (firstOut 2 rs) n) :
    ((∀ r ∈ rs, r.2.1 ≤ r.2.2.2 ∧ r.2.2.2 ≤ r.2.2.1) →
        exec (.configure group values) s =
          .next (State.replied { s with node := n } (.configure group values) ⟨.ok, []⟩)) ∧
      ∀ before r after, rs = before ++ r :: after → (∀ q ∈ before, q.2.1 ≤ q.2.2.2 ∧ q.2.2.2 ≤ q.2.2.1) →
        ¬(r.2.1 ≤ r.2.2.2 ∧ r.2.2.2 ≤ r.2.2.1) →
        exec (.configure group values) s =
          .next (s.replied (.configure group values) ⟨.badValue, [BitVec.ofNat 8 (before.length + 2)]⟩) := by
  refine ⟨fun good => ?_, fun before r after split good bad => ?_⟩
  · exact exec_configure_stored config small size (by rw [read, firstOut_none 2 good, configuredBy])
  · subst split
    refine exec_configure_bad config small size ?_
    rw [read, firstOut_some 2 good bad, configuredBy, Nat.add_comm]

end

theorem Node.configured_mud (n : Node) (bs : List Byte) :
    n.configured 1 bs = configuredBy (firstBad (mudGroup bs).checks) { n with mud := some (mudGroup bs) } := rfl

theorem Node.configured_handler (n : Node) (bs : List Byte) :
    n.configured 2 bs = configuredBy (firstBad (handlerGroup bs).checks) { n with handler := some (handlerGroup bs) } := rfl

theorem Node.configured_head (n : Node) (bs : List Byte) :
    n.configured 3 bs = configuredBy (firstBad (headGroup bs).checks) { n with head := some (headGroup bs) } := rfl

theorem Node.configured_cab (n : Node) (bs : List Byte) :
    n.configured 4 bs = configuredBy (firstBad (cabGroup bs).checks) { n with cab := some (cabGroup bs) } := rfl

/-! ### HANDLER and HEAD (R53, R76, R120, R133) -/

def HandlerConfig.ranges (h : HandlerConfig) : List RangedField := [(2, 50, 2000, h.wearLimit), (2, 10, 600, h.stepTimeout)]

theorem handlerGroup_ranges (h : HandlerConfig) (fits : ∀ r ∈ h.ranges, r.2.2.2 < 256 ^ r.1) :
    handlerGroup (fieldBytes h.ranges) = h := by
  obtain ⟨wear, timeout⟩ := h
  simp only [handlerGroup, HandlerConfig.mk.injEq]
  exact ⟨numAt_group fits 0 rfl rfl, numAt_group fits 1 rfl rfl⟩

def HeadConfig.ranges (d : HeadConfig) : List RangedField :=
  [(4, 1, 2000000, d.travelCount), (2, 10, 10000, d.micronsPerCount), (2, 0, 3000, d.tableHeight),
    (2, 10, 1000, d.resyncTolerance), (2, 10, 500, d.bottomTolerance), (2, 500, 5000, d.intervalLength)]

theorem headGroup_ranges (d : HeadConfig) (fits : ∀ r ∈ d.ranges, r.2.2.2 < 256 ^ r.1) :
    headGroup (fieldBytes d.ranges) = d := by
  obtain ⟨travel, microns, height, resync, bottom, interval⟩ := d
  simp only [headGroup, HeadConfig.mk.injEq]
  exact ⟨numAt_group fits 0 rfl rfl, numAt_group fits 1 rfl rfl, numAt_group fits 2 rfl rfl,
    numAt_group fits 3 rfl rfl, numAt_group fits 4 rfl rfl, numAt_group fits 5 rfl rfl⟩

/-! ### MUD (R90, R106) -/

/-- The area of a pit; that of a pit above n is taken as it stands. -/
def MudConfig.areaRange (m : MudConfig) (i : Fin 4) : RangedField :=
  (2, if i.val < m.pits then 1 else 0, if i.val < m.pits then 60000 else 65535, m.areas[i])

/-- The fields of the MUD group but for the last. -/
def MudConfig.upperRanges (m : MudConfig) : List RangedField :=
  [(1, 1, 4, m.pits), m.areaRange 0, m.areaRange 1, m.areaRange 2, m.areaRange 3, (2, 1, 1000, m.waterFactor),
    (2, 0, 20000, m.steel), (4, 0, 200000, m.hole), (2, 0, 50000, m.deadband),
    (2, 1, 5000, m.gainThreshold), (2, 1, 5000, m.lossThreshold), (2, 1, 65535, m.displacement1),
    (2, 1, 65535, m.displacement2), (1, 50, 100, m.efficiency1), (1, 50, 100, m.efficiency2),
    (2, 1, 1000, m.returnsThreshold), (2, 50, 2000, m.bleedThreshold), (1, 1, m.pits, m.suctionPit),
    (2, 1, 24000, m.startWatermark)]

def MudConfig.ranges (m : MudConfig) : List RangedField :=
  m.upperRanges ++ [(2, 0, min 23999 (m.startWatermark - 1), m.lowWatermark)]

theorem MudConfig.ranges_widths (m : MudConfig) :
    m.ranges.map (·.1) = [1, 2, 2, 2, 2, 2, 2, 4, 2, 2, 2, 2, 2, 1, 1, 2, 2, 1, 2, 2] := rfl

theorem mudGroup_ranges (m : MudConfig) (fits : ∀ r ∈ m.ranges, r.2.2.2 < 256 ^ r.1) :
    mudGroup (fieldBytes m.ranges) = m := by
  have field {i width v low high : Nat} (k : Nat) (place : m.ranges[k]? = some (width, low, high, v))
      (start : ([1, 2, 2, 2, 2, 2, 2, 4, 2, 2, 2, 2, 2, 1, 1, 2, 2, 1, 2, 2].take k).sum = i) :
      numAt (fieldBytes m.ranges) i width = v :=
    numAt_group fits k place (m.ranges_widths ▸ start)
  have areas : tableAt 4 (fieldBytes m.ranges) 1 2 = m.areas := by
    refine Vector.ext fun i small => ?_
    rw [tableAt, Vector.getElem_ofFn]
    match i, small with
    | 0, _ => exact field 1 rfl rfl
    | 1, _ => exact field 2 rfl rfl
    | 2, _ => exact field 3 rfl rfl
    | 3, _ => exact field 4 rfl rfl
  rw [mudGroup, areas]
  have eta : m = ⟨m.pits, m.areas, m.waterFactor, m.steel, m.hole, m.deadband, m.gainThreshold, m.lossThreshold,
    m.displacement1, m.displacement2, m.efficiency1, m.efficiency2, m.returnsThreshold, m.bleedThreshold, m.suctionPit,
    m.startWatermark, m.lowWatermark⟩ := rfl
  refine Eq.trans ?_ eta.symm
  simp only [MudConfig.mk.injEq]
  exact ⟨field 0 rfl rfl, trivial, field 5 rfl rfl, field 6 rfl rfl, field 7 rfl rfl, field 8 rfl rfl, field 9 rfl rfl,
    field 10 rfl rfl, field 11 rfl rfl, field 12 rfl rfl, field 13 rfl rfl, field 14 rfl rfl, field 15 rfl rfl,
    field 16 rfl rfl, field 17 rfl rfl, field 18 rfl rfl, field 19 rfl rfl⟩

theorem MudConfig.areaRange_good (m : MudConfig) (i : Fin 4) (fits : m.areas[i] < 65536) :
    (m.areaRange i).good = (decide (m.pits ≤ i.val) || within 1 60000 m.areas[i]) := by
  by_cases used : i.val < m.pits
  · simp [areaRange, RangedField.good, used, Nat.not_le.2 used]
  · have greatest : m.areas[i] ≤ 65535 := by omega
    simp only [Fin.getElem_fin] at greatest
    simp [areaRange, RangedField.good, used, within, Nat.not_lt.1 used, greatest]

theorem MudConfig.checks_ranges (m : MudConfig) (fits : ∀ r ∈ m.ranges, r.2.2.2 < 256 ^ r.1) :
    firstBad m.checks = firstOut 2 m.ranges := by
  have area (i : Fin 4) (inside : m.areaRange i ∈ m.ranges) := m.areaRange_good i (fits _ inside)
  have upper : m.checks = checksFrom 2 (m.upperRanges.map RangedField.good ++
      [within 0 23999 m.lowWatermark && decide (m.lowWatermark < m.startWatermark)]) := by
    rw [upperRanges, List.map_cons, List.map_cons, List.map_cons, List.map_cons, List.map_cons,
      area 0 (by simp [ranges, upperRanges]), area 1 (by simp [ranges, upperRanges]), area 2 (by simp [ranges, upperRanges]),
      area 3 (by simp [ranges, upperRanges])]
    rfl
  rw [upper, firstOut, ranges, List.map_append]
  refine firstBad_congr_last 2 fun good => ?_
  have started : 1 ≤ m.startWatermark := by
    have check := good (RangedField.good (2, 1, 24000, m.startWatermark)) (List.mem_map_of_mem (by simp [upperRanges]))
    exact ((RangedField.good_iff _).1 check).1
  rw [Bool.eq_iff_iff, Bool.and_eq_true, within_iff, decide_eq_true_eq, RangedField.good_iff]
  change _ ↔ 0 ≤ m.lowWatermark ∧ m.lowWatermark ≤ min 23999 (m.startWatermark - 1)
  omega

end Sys2Proof.Machine
end

section
/-! SUPPORT. The CAB and NODE groups (R1, R152, R167), for O25. -/

namespace Sys2Proof.Machine

/-! ### CAB: prices, then windows (R152) -/

/-- The sixteen prices in the order of their fields. -/
def CabConfig.prices (k : CabConfig) : List Nat :=
  k.timeRates.toList ++ k.bandRates.toList ++ k.additivePrices.toList ++ [k.wearPrice]

def priceRange (v : Nat) : RangedField := (2, 0, 65535, v)

/-- The fields of the windows, the first of which starts no earlier than `least`. -/
def windowRanges (least : Nat) : List TariffWindow → List RangedField
  | [] => []
  | w :: ws => (2, least, 1439, w.start) :: (2, 0, 1023, w.multiplier) :: windowRanges (w.start + 1) ws

def CabConfig.ranges (k : CabConfig) : List RangedField :=
  k.prices.map priceRange ++ (1, 0, 8, k.windows.length) :: windowRanges 0 k.windows

theorem windowRanges_eq_zip (least : Nat) (ws : List TariffWindow) :
    windowRanges least ws = (ws.zip (least :: ws.map (·.start + 1))).flatMap fun w =>
      [(2, w.2, 1439, w.1.start), (2, 0, 1023, w.1.multiplier)] := by
  induction ws generalizing least with
  | nil => rfl
  | cons w ws ih => exact congrArg (fun rest => (2, least, 1439, w.start) :: (2, 0, 1023, w.multiplier) :: rest) (ih _)

theorem CabConfig.prices_length (k : CabConfig) : k.prices.length = 16 := by simp [prices]

theorem fieldBytes_append (xs ys : List RangedField) : fieldBytes (xs ++ ys) = fieldBytes xs ++ fieldBytes ys :=
  List.flatMap_append

theorem fieldBytes_prices_length (ps : List Nat) : (fieldBytes (ps.map priceRange)).length = 2 * ps.length := by
  simp [fieldBytes_length, priceRange, Function.comp_def, List.map_const', List.sum_replicate_nat, Nat.mul_comm]

theorem fieldBytes_windows_length (least : Nat) (ws : List TariffWindow) :
    (fieldBytes (windowRanges least ws)).length = 4 * ws.length := by
  induction ws generalizing least with
  | nil => rfl
  | cons w ws ih =>
    have bytes : fieldBytes (windowRanges least (w :: ws)) =
        be 2 w.start ++ (be 2 w.multiplier ++ fieldBytes (windowRanges (w.start + 1) ws)) := rfl
    rw [bytes, List.length_append, List.length_append, be_length, be_length, ih, List.length_cons]
    omega

theorem CabConfig.ranges_length (k : CabConfig) : (fieldBytes k.ranges).length = 33 + 4 * k.windows.length := by
  have count : fieldBytes ((1, 0, 8, k.windows.length) :: windowRanges 0 k.windows) =
      be 1 k.windows.length ++ fieldBytes (windowRanges 0 k.windows) := rfl
  rw [ranges, fieldBytes_append, count, List.length_append, List.length_append, fieldBytes_prices_length,
    fieldBytes_windows_length, be_length, prices_length]
  omega

theorem numAt_price {ps : List Nat} (rest : List Byte) {i : Nat} (inside : i < ps.length)
    (fits : ∀ v ∈ ps, v < 65536) : numAt (fieldBytes (ps.map priceRange) ++ rest) (2 * i) 2 = ps[i] := by
  induction ps generalizing i with
  | nil => simp at inside
  | cons p ps ih =>
    have bytes : fieldBytes ((p :: ps).map priceRange) ++ rest = be 2 p ++ (fieldBytes (ps.map priceRange) ++ rest) := by
      rw [← List.append_assoc]
      rfl
    rw [bytes]
    cases i with
    | zero => exact numAt_be _ (fits p List.mem_cons_self)
    | succ i =>
      have skip := numAt_prefix (be 2 p) (fieldBytes (ps.map priceRange) ++ rest) (2 * i) 2
      rw [be_length] at skip
      rw [Nat.mul_succ, Nat.add_comm, skip, List.getElem_cons_succ]
      exact ih _ fun v member => fits v (List.mem_cons_of_mem _ member)

theorem windows_read {least : Nat} {ws : List TariffWindow}
    (fits : ∀ r ∈ windowRanges least ws, r.2.2.2 < 256 ^ r.1) :
    ((List.range ws.length).map fun k => (⟨numAt (fieldBytes (windowRanges least ws)) (4 * k) 2,
      numAt (fieldBytes (windowRanges least ws)) (4 * k + 2) 2⟩ : TariffWindow)) = ws := by
  induction ws generalizing least with
  | nil => rfl
  | cons w ws ih =>
    have bytes : fieldBytes (windowRanges least (w :: ws)) =
        be 2 w.start ++ (be 2 w.multiplier ++ fieldBytes (windowRanges (w.start + 1) ws)) := rfl
    have start : w.start < 256 ^ 2 := fits _ List.mem_cons_self
    have multiplier : w.multiplier < 256 ^ 2 := fits _ (List.mem_cons_of_mem _ List.mem_cons_self)
    have skip (i : Nat) : numAt (fieldBytes (windowRanges least (w :: ws))) (4 + i) 2 =
        numAt (fieldBytes (windowRanges (w.start + 1) ws)) i 2 := by
      have long : (be 2 w.start ++ be 2 w.multiplier).length = 4 := rfl
      rw [bytes, ← List.append_assoc, ← long, numAt_prefix]
    have second : numAt (fieldBytes (windowRanges least (w :: ws))) 2 2 = w.multiplier := by
      have skipped := numAt_prefix (be 2 w.start) (be 2 w.multiplier ++ fieldBytes (windowRanges (w.start + 1) ws)) 0 2
      rw [be_length] at skipped
      rw [bytes, skipped, numAt_be _ multiplier]
    rw [List.length_cons, List.range_succ_eq_map, List.map_cons, List.map_map]
    refine congr (congrArg List.cons ?_) ?_
    · rw [Nat.mul_zero, Nat.zero_add, second, bytes, numAt_be _ start]
    · refine Eq.trans (List.map_congr_left fun k _ => ?_)
        (ih (least := w.start + 1) fun r member => fits r (List.mem_cons_of_mem _ (List.mem_cons_of_mem _ member)))
      have shift : 4 * (k + 1) = 4 + 4 * k := by omega
      rw [Function.comp_apply, Nat.succ_eq_add_one, shift, skip, Nat.add_assoc, skip]

theorem CabConfig.price_fits {k : CabConfig} (fits : ∀ r ∈ k.ranges, r.2.2.2 < 256 ^ r.1) : ∀ v ∈ k.prices, v < 65536 :=
  fun v member => fits (priceRange v) (List.mem_append_left _ (List.mem_map_of_mem member))

theorem cabGroup_ranges (k : CabConfig) (fits : ∀ r ∈ k.ranges, r.2.2.2 < 256 ^ r.1) :
    numAt (fieldBytes k.ranges) 32 1 = k.windows.length ∧ cabGroup (fieldBytes k.ranges) = k := by
  have split : fieldBytes k.ranges = fieldBytes (k.prices.map priceRange) ++
      (be 1 k.windows.length ++ fieldBytes (windowRanges 0 k.windows)) := fieldBytes_append _ _
  have price {i : Nat} (inside : i < k.prices.length) : numAt (fieldBytes k.ranges) (2 * i) 2 = k.prices[i] := by
    rw [split]
    exact numAt_price _ inside (CabConfig.price_fits fits)
  have count : numAt (fieldBytes k.ranges) 32 1 = k.windows.length := by
    have skip := numAt_prefix (fieldBytes (k.prices.map priceRange))
      (be 1 k.windows.length ++ fieldBytes (windowRanges 0 k.windows)) 0 1
    rw [fieldBytes_prices_length, k.prices_length] at skip
    have small : k.windows.length < 256 ^ 1 :=
      fits (1, 0, 8, k.windows.length) (List.mem_append_right _ List.mem_cons_self)
    rw [split]
    exact skip.trans (numAt_be _ small)
  have windows (i : Nat) : numAt (fieldBytes k.ranges) (33 + i) 2 = numAt (fieldBytes (windowRanges 0 k.windows)) i 2 := by
    have long : (fieldBytes (k.prices.map priceRange) ++ be 1 k.windows.length).length = 33 := by
      rw [List.length_append, fieldBytes_prices_length, k.prices_length, be_length]
    rw [split, ← List.append_assoc, ← long, numAt_prefix]
  refine ⟨count, ?_⟩
  have time : tableAt 7 (fieldBytes k.ranges) 0 2 = k.timeRates := by
    refine Vector.ext fun i small => ?_
    have found := price (i := i) (by rw [k.prices_length]; omega)
    rw [tableAt, Vector.getElem_ofFn, Nat.zero_add]
    exact found.trans (by simp [CabConfig.prices, List.getElem_append, small])
  have band : tableAt 4 (fieldBytes k.ranges) 14 2 = k.bandRates := by
    refine Vector.ext fun i small => ?_
    have found := price (i := 7 + i) (by rw [k.prices_length]; omega)
    rw [tableAt, Vector.getElem_ofFn, show 14 + 2 * i = 2 * (7 + i) by omega]
    exact found.trans (by simp [CabConfig.prices, List.getElem_append, small])
  have additive : tableAt 4 (fieldBytes k.ranges) 22 2 = k.additivePrices := by
    refine Vector.ext fun i small => ?_
    have found := price (i := 11 + i) (by rw [k.prices_length]; omega)
    rw [tableAt, Vector.getElem_ofFn, show 22 + 2 * i = 2 * (11 + i) by omega]
    have past : ¬11 + i < 7 ∧ ¬11 + i - 7 < 4 ∧ 11 + i - 7 - 4 = i := by omega
    exact found.trans (by simp [CabConfig.prices, List.getElem_append, small, past])
  have wear : numAt (fieldBytes k.ranges) 30 2 = k.wearPrice :=
    (price (i := 15) (by rw [k.prices_length]; omega)).trans (by simp [CabConfig.prices, List.getElem_append])
  rw [cabGroup, time, band, additive, wear, count]
  have read : ((List.range k.windows.length).map fun i => (⟨numAt (fieldBytes k.ranges) (33 + 4 * i) 2,
      numAt (fieldBytes k.ranges) (35 + 4 * i) 2⟩ : TariffWindow)) = k.windows := by
    refine Eq.trans (List.map_congr_left fun i _ => ?_) (windows_read (least := 0) (ws := k.windows) fun r member =>
      fits r (List.mem_append_right _ (List.mem_cons_of_mem _ member)))
    rw [windows, show 35 + 4 * i = 33 + (4 * i + 2) by omega, windows]
  rw [read]

theorem windowChecks_ranges (f : Nat) {least : Nat} {before : Option Nat} (ws : List TariffWindow)
    (follows : ∀ x, before.all (fun b => decide (b < x)) = decide (least ≤ x)) :
    windowChecks f before ws = checksFrom f ((windowRanges least ws).map RangedField.good) := by
  induction ws generalizing f least before with
  | nil => rfl
  | cons w ws ih =>
    have started : (within 0 1439 w.start && before.all (· < w.start)) = RangedField.good (2, least, 1439, w.start) := by
      rw [follows, Bool.eq_iff_iff, Bool.and_eq_true, within_iff, decide_eq_true_eq, RangedField.good_iff]
      change _ ↔ least ≤ w.start ∧ w.start ≤ 1439
      omega
    rw [windowChecks, started, windowRanges, List.map_cons, List.map_cons, checksFrom_cons, checksFrom_cons,
      ih (f + 2) (least := w.start + 1) fun x => by rw [Option.all_some]; rfl]
    rfl

theorem CabConfig.checks_ranges (k : CabConfig) (fits : ∀ r ∈ k.ranges, r.2.2.2 < 256 ^ r.1) (few : k.windows.length ≤ 8) :
    firstBad k.checks = firstOut 2 k.ranges := by
  have split : k.ranges.map RangedField.good =
      ((k.prices.map priceRange).map RangedField.good ++ [RangedField.good (1, 0, 8, k.windows.length)]) ++
        (windowRanges 0 k.windows).map RangedField.good := by simp [ranges]
  have good : ∀ b ∈ (k.prices.map priceRange).map RangedField.good ++ [RangedField.good (1, 0, 8, k.windows.length)],
      b = true := by
    intro b inside
    rcases List.mem_append.1 inside with price | count
    · obtain ⟨r, member, rfl⟩ := List.mem_map.1 price
      obtain ⟨v, listed, rfl⟩ := List.mem_map.1 member
      exact (RangedField.good_iff _).2 ⟨Nat.zero_le _, Nat.le_of_lt_succ (CabConfig.price_fits fits v listed)⟩
    · rw [List.mem_singleton.1 count]
      exact (RangedField.good_iff _).2 ⟨Nat.zero_le _, few⟩
  rw [firstOut, split, firstBad_skip 2 _ good, checks, windowChecks_ranges 19 (least := 0) k.windows fun x => by simp]
  simp [k.prices_length]

/-! ### NODE (R1, R167) -/

theorem mask_within (mask : BitVec 32) : (mask &&& ~~~allCauses == 0#32) = decide (mask.toNat < 2 ^ 18) := by
  rw [Bool.eq_iff_iff, beq_iff_eq, decide_eq_true_eq]
  constructor
  · intro none
    refine Nat.lt_pow_two_of_testBit _ fun i high => ?_
    have bit : (mask &&& ~~~allCauses).getLsbD i = (0#32).getLsbD i := by rw [none]
    have past : ¬i < 18 := by omega
    by_cases inside : i < 32
    · rw [BitVec.getLsbD_and, BitVec.getLsbD_not, allCauses_getLsbD, decide_eq_false past, decide_eq_true inside,
        BitVec.getLsbD_zero] at bit
      rw [BitVec.testBit_toNat]
      simpa using bit
    · exact BitVec.getLsbD_of_ge mask i (Nat.not_lt.1 inside)
  · intro small
    refine BitVec.eq_of_getLsbD_eq fun i inside => ?_
    by_cases low : i < 18
    · simp [allCauses_getLsbD, low]
    · have clear : mask.getLsbD i = false :=
        Nat.testBit_lt_two_pow (Nat.lt_of_lt_of_le small (Nat.pow_le_pow_right (by omega) (Nat.not_lt.1 low)))
      rw [BitVec.getLsbD_and, clear, Bool.false_and, BitVec.getLsbD_zero]

theorem readNode_eq (station roles m3 m2 m1 m0 : Byte) :
    readNode [station, roles, m3, m2, m1, m0] =
      configuredBy (firstBad (checksFrom 2 [within 0 7 station.toNat, within 1 15 roles.toNat,
        decide ((m3 ++ m2 ++ m1 ++ m0 : BitVec 32).toNat < 2 ^ 18)]))
        ⟨Fin.ofNat 8 station.toNat, roleSetOf roles.toNat, m3 ++ m2 ++ m1 ++ m0⟩ := by
  have first : numAt [station, roles, m3, m2, m1, m0] 0 1 = station.toNat := by simp [numAt, ofBytes]
  have second : numAt [station, roles, m3, m2, m1, m0] 1 1 = roles.toNat := by simp [numAt, ofBytes]
  have mask : quadAt [station, roles, m3, m2, m1, m0] 2 = (m3 ++ m2 ++ m1 ++ m0 : BitVec 32) := quadAt_four m3 m2 m1 m0 []
  rw [readNode, first, second, mask, mask_within]
  rfl

theorem roleSetOf_byte (roles : Byte) :
    roleSetOf roles.toNat = ⟨roles.getLsbD 3, roles.getLsbD 2, roles.getLsbD 1, roles.getLsbD 0⟩ := rfl

section

variable {station roles m3 m2 m1 m0 : Byte}

theorem readNode_station (bad : 8 ≤ station.toNat) : readNode [station, roles, m3, m2, m1, m0] = .error 2 := by
  have out : within 0 7 station.toNat = false := (within_eq_false _ _ _).2 (by omega)
  rw [readNode_eq, firstBad_checks, if_neg (by simp [out]), configuredBy]

theorem readNode_roles (good : station.toNat < 8) (bad : roles = 0#8 ∨ 16 ≤ roles.toNat) :
    readNode [station, roles, m3, m2, m1, m0] = .error 3 := by
  have inside : within 0 7 station.toNat = true := (within_iff _ _ _).2 (by omega)
  have out : within 1 15 roles.toNat = false := (within_eq_false _ _ _).2 (by
    rcases bad with rfl | large
    · decide
    · omega)
  rw [readNode_eq, firstBad_checks, if_pos inside, firstBad_checks, if_neg (by simp [out]), configuredBy]

theorem readNode_mask (good : station.toNat < 8) (some : 0 < roles.toNat) (few : roles.toNat < 16)
    (bad : 2 ^ 18 ≤ (m3 ++ m2 ++ m1 ++ m0 : BitVec 32).toNat) :
    readNode [station, roles, m3, m2, m1, m0] = .error 4 := by
  have inside : within 0 7 station.toNat = true := (within_iff _ _ _).2 (by omega)
  have held : within 1 15 roles.toNat = true := (within_iff _ _ _).2 (by omega)
  rw [readNode_eq, firstBad_checks, if_pos inside, firstBad_checks, if_pos held, firstBad_checks,
    if_neg (by simpa using bad), configuredBy]

theorem readNode_good {st : Station} (good : station.toNat = st.val) (some : 0 < roles.toNat) (few : roles.toNat < 16)
    (named : (m3 ++ m2 ++ m1 ++ m0 : BitVec 32).toNat < 2 ^ 18) :
    readNode [station, roles, m3, m2, m1, m0] =
      .ok ⟨st, ⟨roles.getLsbD 3, roles.getLsbD 2, roles.getLsbD 1, roles.getLsbD 0⟩, m3 ++ m2 ++ m1 ++ m0⟩ := by
  have inside : within 0 7 station.toNat = true := (within_iff _ _ _).2 (by omega)
  have held : within 1 15 roles.toNat = true := (within_iff _ _ _).2 (by omega)
  have number : Fin.ofNat 8 station.toNat = st := Fin.ext (by simp [good, Nat.mod_eq_of_lt st.isLt])
  have good : ∀ b ∈ [within 0 7 station.toNat, within 1 15 roles.toNat,
      decide ((m3 ++ m2 ++ m1 ++ m0 : BitVec 32).toNat < 2 ^ 18)], b = true := by
    simpa [inside, held] using named
  rw [readNode_eq, firstBad_good 2 good,
    configuredBy, number, roleSetOf_byte]

end

end Sys2Proof.Machine

namespace Sys2Proof

open Machine

/-- Settles O25: each group by its fields and their ranges. -/
theorem configureTakesAGroup : Obligations.ConfigureTakesAGroup := by
  unfold Obligations.ConfigureTakesAGroup
  intro group values m h d k s c stored bad sizes inRange takes area price starts
  refine ⟨exec_configure_locked, fun config => ⟨exec_configure_unknown config, fun n size other => ?_, fun four bad => ?_,
    fun station roles m3 m2 m1 m0 zero given => ?_, ?_, fun two given fits => ?_,
    fun three given fits => ?_, fun few => ?_⟩⟩
  · have small : group.toNat ≤ 3 := by
      have inside := (List.getElem?_eq_some_iff.1 size).1
      exact Nat.le_of_lt_succ inside
    refine exec_configure_size config (by omega) ?_
    have fixed : groupSize group.toNat values = some n := by
      rw [← size]
      generalize group.toNat = g at small
      match g, small with
      | 0, _ | 1, _ | 2, _ | 3, _ => rfl
    rw [fixed]
    exact fun same => other (Option.some.inj same).symm
  · subst four
    refine exec_configure_size config (by decide) ?_
    have size : groupSize 4 values =
        if 33 ≤ values.length ∧ numAt values 32 1 ≤ 8 then some (33 + 4 * numAt values 32 1) else none := rfl
    change groupSize 4 values ≠ _
    rw [size]
    split
    · rintro same
      have := Option.some.inj same
      omega
    · nofun
  · subst zero given
    have read {r : Except Nat NodeConfig} (node : readNode [station, roles, m3, m2, m1, m0] = r) :
        s.node.configured 0 [station, roles, m3, m2, m1, m0] = r.map fun c => { s.node with node := some c } := by
      rw [← node]
      rfl
    refine ⟨fun bad => ?_, fun good bad => ?_, fun good some few bad => ?_, fun st good some few named => ?_⟩
    · exact exec_configure_bad (f := 2) config (by decide) rfl (read (readNode_station bad))
    · exact exec_configure_bad (f := 3) config (by decide) rfl (read (readNode_roles good bad))
    · exact exec_configure_bad (f := 4) config (by decide) rfl (read (readNode_mask good some few bad))
    · exact exec_configure_stored config (by decide) rfl (read (readNode_good good some few named))
  · have areas (i : Fin 4) : area i = m.areaRange i := by
      simp only [area, MudConfig.areaRange]
      split <;> rfl
    rw [areas 0, areas 1, areas 2, areas 3]
    rintro rfl rfl fits
    have fits' : ∀ r ∈ m.ranges, r.2.2.2 < 256 ^ r.1 := fits
    refine exec_configure_ranges (rs := m.ranges) (group := 1#8) (values := fieldBytes m.ranges) config (by decide) rfl ?_
    refine (s.node.configured_mud _).trans ?_
    rw [mudGroup_ranges m fits', m.checks_ranges fits']
  · subst two given
    refine exec_configure_ranges (rs := h.ranges) config (by decide) rfl ?_
    refine (s.node.configured_handler (fieldBytes h.ranges)).trans ?_
    rw [handlerGroup_ranges h fits]
    rfl
  · subst three given
    refine exec_configure_ranges (rs := d.ranges) config (by decide) rfl ?_
    refine (s.node.configured_head (fieldBytes d.ranges)).trans ?_
    rw [headGroup_ranges d fits]
    rfl
  · have fields : k.timeRates.toList.map price ++ k.bandRates.toList.map price ++ k.additivePrices.toList.map price ++
        [price k.wearPrice, (1, 0, 8, k.windows.length)] ++ (k.windows.zip starts).flatMap (fun w =>
          [(2, w.2, 1439, w.1.start), (2, 0, 1023, w.1.multiplier)]) = k.ranges := by
      rw [CabConfig.ranges, windowRanges_eq_zip]
      simp only [CabConfig.prices, List.map_append, List.append_assoc, List.map_cons, List.map_nil, List.cons_append,
        List.nil_append]
      rfl
    rw [fields]
    rintro rfl rfl fits
    obtain ⟨count, group⟩ := cabGroup_ranges k fits
    have size : groupSize 4 (fieldBytes k.ranges) = some (fieldBytes k.ranges).length := by
      rw [k.ranges_length, ← count]
      exact if_pos ⟨by rw [k.ranges_length]; omega, count ▸ few⟩
    refine exec_configure_ranges (rs := k.ranges) (group := 4#8) (values := fieldBytes k.ranges) config (by decide) size ?_
    refine (s.node.configured_cab _).trans ?_
    rw [group, k.checks_ranges fits few]

end Sys2Proof
end

section
/-! SUPPORT. Payloads read back (R171): what is laid out field by field is read field by field. For O60. -/

namespace Sys2Proof.Machine

/-! ### Readers on fields that are known -/

/-- A field that may hold any value of its width. -/
def plainField (width v : Nat) : RangedField := (width, 0, 256 ^ width - 1, v)

theorem be_one (v : Nat) : be 1 v = [BitVec.ofNat 8 v] := by simp [be]

section

variable {bs : List Byte} {i lo n : Nat}

theorem byteAt_of_numAt {x : Byte} (number : numAt bs i 1 = x.toNat) : byteAt bs i = x := by
  rw [byteAt, number, BitVec.ofNat_toNat, BitVec.setWidth_eq]

theorem wordAt_of_numAt {x : BitVec 16} (number : numAt bs i 2 = x.toNat) : wordAt bs i = x := by
  rw [wordAt, number, BitVec.ofNat_toNat, BitVec.setWidth_eq]

theorem quadAt_of_numAt {x : BitVec 32} (number : numAt bs i 4 = x.toNat) : quadAt bs i = x := by
  rw [quadAt, number, BitVec.ofNat_toNat, BitVec.setWidth_eq]

theorem ofNat_of_toNat {m : Nat} {x : BitVec n} (number : m = x.toNat) : BitVec.ofNat n m = x := by
  rw [number, BitVec.ofNat_toNat, BitVec.setWidth_eq]

theorem bitAt_of_bitsAt {b : Bool} (bits : bitsAt bs i lo 1 = b.toNat) : bitAt bs i lo = b := by
  rw [bitAt, bits]
  cases b <;> rfl

theorem fourAt_of_numAt {x : Vector (BitVec 32) 4} (first : numAt bs i 4 = x[0].toNat) (second : numAt bs (i + 4) 4 = x[1].toNat)
    (third : numAt bs (i + 8) 4 = x[2].toNat) (fourth : numAt bs (i + 12) 4 = x[3].toNat) : fourAt bs i = x := by
  rw [fourAt, quadAt_of_numAt first, quadAt_of_numAt second, quadAt_of_numAt third, quadAt_of_numAt fourth]
  refine Vector.ext fun k small => ?_
  match k, small with
  | 0, _ | 1, _ | 2, _ | 3, _ => rfl

end

/-! ### A last directive result -/

theorem resultAt_prefix (xs ys : List Byte) : resultAt (xs ++ ys) xs.length = resultAt ys 0 := by
  have shift (i n : Nat) : numAt (xs ++ ys) (xs.length + i) n = numAt ys i n := numAt_prefix xs ys i n
  have start (n : Nat) : numAt (xs ++ ys) xs.length n = numAt ys 0 n := shift 0 n
  simp only [resultAt, bitAt, bitsAt, byteAt, shift, start, Nat.zero_add]

theorem resultAt_resultField (r : Option DirectiveResult) : resultAt (resultField r) 0 = r := by
  rcases r with _ | ⟨source, code, result, field⟩
  · rfl
  · have small : 128 + source.val * 16 + code.toNat < 256 := by have := source.isLt; have := code.isLt; omega
    have first : numAt (resultField (some ⟨source, code, result, field⟩)) 0 1 = 128 + source.val * 16 + code.toNat := by
      simp [numAt, resultField, ofBytes, Nat.mod_eq_of_lt small]
    have place : bitsAt (resultField (some ⟨source, code, result, field⟩)) 0 7 1 = true.toNat := by
      rw [bitsAt, first]
      have := source.isLt
      have := code.isLt
      simp only [Bool.toNat_true]
      omega
    have station : Fin.ofNat 8 (bitsAt (resultField (some ⟨source, code, result, field⟩)) 0 4 3) = source := by
      have number : bitsAt (resultField (some ⟨source, code, result, field⟩)) 0 4 3 = source.val := by
        rw [bitsAt, first]
        have := source.isLt
        have := code.isLt
        omega
      rw [number]
      exact Fin.ext (Nat.mod_eq_of_lt source.isLt)
    have low : BitVec.ofNat 4 (bitsAt (resultField (some ⟨source, code, result, field⟩)) 0 0 4) = code :=
      ofNat_of_toNat (by rw [bitsAt, first]; have := code.isLt; omega)
    rw [resultAt, bitAt_of_bitsAt place, if_pos rfl, station, low]
    simp [resultField]

/-- A payload that is laid out in fields of some widths, with more bytes after them. -/
theorem payload_place {bytes more : List Byte} {rs : List RangedField} {widths : List Nat}
    (laid : bytes = fieldBytes rs ++ more) (wide : rs.map (·.1) = widths) (fits : ∀ r ∈ rs, r.2.2.2 < 256 ^ r.1)
    {i width v low high : Nat} (k : Nat) (field : rs[k]? = some (width, low, high, v)) (start : (widths.take k).sum = i) :
    numAt bytes i width = v := by
  subst wide
  rw [laid]
  exact numAt_place fits k field start more

theorem payload_result {bytes : List Byte} {rs : List RangedField} {r : Option DirectiveResult} {widths : List Nat}
    {i : Nat} (laid : bytes = fieldBytes rs ++ resultField r) (wide : rs.map (·.1) = widths) (start : widths.sum = i) :
    resultAt bytes i = r := by
  subst wide
  rw [laid, ← start, ← fieldBytes_length, resultAt_prefix, resultAt_resultField]

/-! ### MUD_ANNOUNCE -/

def mudFields (a : MudAnnounce) : List RangedField :=
  [plainField 1 (a.circ.toNat * 32 + codeOf conditionTable a.condition * 8 + a.returnsAbsent.toNat * 4),
    plainField 1 (a.pump1.toNat * 32 + a.pump2.toNat * 4), plainField 4 a.flowIn.toNat, plainField 2 a.pressure.toNat,
    plainField 3 a.balance.toNat, plainField 4 a.gain.toNat, plainField 4 a.loss.toNat, plainField 4 a.running1.toNat,
    plainField 4 a.running2.toNat, plainField 4 a.additives[0].toNat, plainField 4 a.additives[1].toNat,
    plainField 4 a.additives[2].toNat, plainField 4 a.additives[3].toNat, plainField 2 a.epoch.toNat]

theorem mudFields_widths (a : MudAnnounce) : (mudFields a).map (·.1) = [1, 1, 4, 2, 3, 4, 4, 4, 4, 4, 4, 4, 4, 2] := rfl

theorem mudPayload_fields (a : MudAnnounce) : mudPayload a = fieldBytes (mudFields a) ++ resultField a.result := by
  simp [mudPayload, mudFields, fieldBytes, plainField, fourField, be_one]

theorem conditionTable_small (x : BalanceCondition) : codeOf conditionTable x < 4 := by cases x <;> decide

theorem mudFields_fit (a : MudAnnounce) : ∀ r ∈ mudFields a, r.2.2.2 < 256 ^ r.1 := by
  have circ := a.circ.isLt
  have condition := conditionTable_small a.condition
  have absent := a.returnsAbsent.toNat_le
  have pump1 := a.pump1.isLt
  have pump2 := a.pump2.isLt
  simp only [mudFields, List.forall_mem_cons, plainField]
  exact ⟨by omega, by omega, a.flowIn.isLt, a.pressure.isLt, a.balance.isLt, a.gain.isLt, a.loss.isLt, a.running1.isLt,
    a.running2.isLt, a.additives[0].isLt, a.additives[1].isLt, a.additives[2].isLt, a.additives[3].isLt, a.epoch.isLt, nofun⟩

theorem mudOf_mudPayload (a : MudAnnounce) : mudOf (mudPayload a) = some a := by
  have laid := mudPayload_fields a
  have wide := mudFields_widths a
  have fits := mudFields_fit a
  have first := payload_place laid wide fits (i := 0) 0 rfl rfl
  have second := payload_place laid wide fits (i := 1) 1 rfl rfl
  have circ := a.circ.isLt
  have condition := conditionTable_small a.condition
  have absent := a.returnsAbsent.toNat_le
  have pump1 := a.pump1.isLt
  have pump2 := a.pump2.isLt
  have code : bitsAt (mudPayload a) 0 3 2 = codeOf conditionTable a.condition := by rw [bitsAt, first]; omega
  have result : resultAt (mudPayload a) 45 = a.result := payload_result laid wide rfl
  have whole : a = ⟨a.circ, a.condition, a.returnsAbsent, a.pump1, a.pump2, a.flowIn, a.pressure, a.balance, a.gain, a.loss,
    a.running1, a.running2, a.additives, a.epoch, a.result⟩ := rfl
  rw [mudOf, code, conditionTable_code, result]
  refine Eq.trans ?_ (congrArg some whole.symm)
  simp only [Option.bind_eq_bind, Option.bind_some, Option.some.injEq, MudAnnounce.mk.injEq]
  exact ⟨ofNat_of_toNat (by rw [bitsAt, first]; omega), trivial, bitAt_of_bitsAt (by rw [bitsAt, first]; omega),
    ofNat_of_toNat (by rw [bitsAt, second]; omega), ofNat_of_toNat (by rw [bitsAt, second]; omega),
    quadAt_of_numAt (payload_place laid wide fits 2 rfl rfl), wordAt_of_numAt (payload_place laid wide fits 3 rfl rfl), ofNat_of_toNat (payload_place laid wide fits 4 rfl rfl),
    quadAt_of_numAt (payload_place laid wide fits 5 rfl rfl), quadAt_of_numAt (payload_place laid wide fits 6 rfl rfl), quadAt_of_numAt (payload_place laid wide fits 7 rfl rfl),
    quadAt_of_numAt (payload_place laid wide fits 8 rfl rfl), fourAt_of_numAt (payload_place laid wide fits 9 rfl rfl) (payload_place laid wide fits 10 rfl rfl) (payload_place laid wide fits 11 rfl rfl)
      (payload_place laid wide fits 12 rfl rfl), wordAt_of_numAt (payload_place laid wide fits 13 rfl rfl), trivial⟩

/-! ### HANDLER_ANNOUNCE -/

def handlerFields (a : HandlerAnnounce) : List RangedField :=
  [plainField 1 (a.kind.toNat * 64 + a.stringOpen.toNat * 32 + a.permit.toNat * 16 + a.step.toNat),
    plainField 3 a.length.toNat, plainField 1 a.entries.toNat, plainField 2 a.topRod.toNat,
    plainField 1 a.remaining.toNat, plainField 4 a.makeups.toNat, plainField 4 a.breakouts.toNat,
    plainField 2 a.epoch.toNat]

theorem handlerFields_widths (a : HandlerAnnounce) : (handlerFields a).map (·.1) = [1, 3, 1, 2, 1, 4, 4, 2] := rfl

theorem handlerPayload_fields (a : HandlerAnnounce) :
    handlerPayload a = fieldBytes (handlerFields a) ++ resultField a.result := by
  simp [handlerPayload, handlerFields, fieldBytes, plainField, be_one]

theorem handlerFields_fit (a : HandlerAnnounce) : ∀ r ∈ handlerFields a, r.2.2.2 < 256 ^ r.1 := by
  have kind := a.kind.isLt
  have opened := a.stringOpen.toNat_le
  have permit := a.permit.toNat_le
  have step := a.step.isLt
  simp only [handlerFields, List.forall_mem_cons, plainField]
  exact ⟨by omega, a.length.isLt, a.entries.isLt, a.topRod.isLt, a.remaining.isLt, a.makeups.isLt, a.breakouts.isLt,
    a.epoch.isLt, nofun⟩

theorem handlerOf_handlerPayload (a : HandlerAnnounce) : handlerOf (handlerPayload a) = a := by
  have laid := handlerPayload_fields a
  have wide := handlerFields_widths a
  have fits := handlerFields_fit a
  have first := payload_place laid wide fits (i := 0) 0 rfl rfl
  have kind := a.kind.isLt
  have opened := a.stringOpen.toNat_le
  have permit := a.permit.toNat_le
  have step := a.step.isLt
  have whole : a = ⟨a.kind, a.stringOpen, a.permit, a.step, a.length, a.entries, a.topRod, a.remaining, a.makeups,
    a.breakouts, a.epoch, a.result⟩ := rfl
  refine Eq.trans ?_ whole.symm
  simp only [handlerOf, HandlerAnnounce.mk.injEq]
  exact ⟨ofNat_of_toNat (by rw [bitsAt, first]; omega), bitAt_of_bitsAt (by rw [bitsAt, first]; omega),
    bitAt_of_bitsAt (by rw [bitsAt, first]; omega), ofNat_of_toNat (by rw [bitsAt, first]; omega),
    ofNat_of_toNat (payload_place laid wide fits 1 rfl rfl), byteAt_of_numAt (payload_place laid wide fits 2 rfl rfl),
    wordAt_of_numAt (payload_place laid wide fits 3 rfl rfl), byteAt_of_numAt (payload_place laid wide fits 4 rfl rfl),
    quadAt_of_numAt (payload_place laid wide fits 5 rfl rfl), quadAt_of_numAt (payload_place laid wide fits 6 rfl rfl),
    wordAt_of_numAt (payload_place laid wide fits 7 rfl rfl), payload_result laid wide rfl⟩

/-! ### HEAD_ANNOUNCE -/

def headFields (a : HeadAnnounce) : List RangedField :=
  [plainField 4 a.d.toNat, plainField 4 a.dmax.toNat,
    plainField 1 (codeOf trackingTable a.tracking * 64 + a.onBottom.toNat * 32 + codeOf lithologyTable a.lithology),
    plainField 4 a.rop.toNat, plainField 4 a.sequence.toNat, plainField 4 a.footage[0].toNat,
    plainField 4 a.footage[1].toNat, plainField 4 a.footage[2].toNat, plainField 4 a.footage[3].toNat,
    plainField 2 a.epoch.toNat]

theorem headFields_widths (a : HeadAnnounce) : (headFields a).map (·.1) = [4, 4, 1, 4, 4, 4, 4, 4, 4, 2] := rfl

theorem headPayload_fields (a : HeadAnnounce) : headPayload a = fieldBytes (headFields a) ++ resultField a.result := by
  simp [headPayload, headFields, fieldBytes, plainField, fourField, be_one]

theorem trackingTable_small (x : TrackingState) : codeOf trackingTable x < 4 := by cases x <;> decide

theorem lithologyTable_small (x : Lithology) : codeOf lithologyTable x < 16 := by cases x <;> decide

theorem headFields_fit (a : HeadAnnounce) : ∀ r ∈ headFields a, r.2.2.2 < 256 ^ r.1 := by
  have tracking := trackingTable_small a.tracking
  have bottom := a.onBottom.toNat_le
  have lithology := lithologyTable_small a.lithology
  simp only [headFields, List.forall_mem_cons, plainField]
  exact ⟨a.d.isLt, a.dmax.isLt, by omega, a.rop.isLt, a.sequence.isLt, a.footage[0].isLt, a.footage[1].isLt,
    a.footage[2].isLt, a.footage[3].isLt, a.epoch.isLt, nofun⟩

theorem headOf_headPayload (a : HeadAnnounce) : headOf (headPayload a) = some a := by
  have laid := headPayload_fields a
  have wide := headFields_widths a
  have fits := headFields_fit a
  have middle := payload_place laid wide fits (i := 8) 2 rfl rfl
  have tracking := trackingTable_small a.tracking
  have bottom := a.onBottom.toNat_le
  have lithology := lithologyTable_small a.lithology
  have state : bitsAt (headPayload a) 8 6 2 = codeOf trackingTable a.tracking := by rw [bitsAt, middle]; omega
  have rock : bitsAt (headPayload a) 8 0 4 = codeOf lithologyTable a.lithology := by rw [bitsAt, middle]; omega
  have whole : a = ⟨a.d, a.dmax, a.tracking, a.onBottom, a.lithology, a.rop, a.sequence, a.footage, a.epoch, a.result⟩ := rfl
  rw [headOf, state, rock, trackingTable_code, lithologyTable_code]
  refine Eq.trans ?_ (congrArg some whole.symm)
  simp only [Option.bind_eq_bind, Option.bind_some, Option.some.injEq, HeadAnnounce.mk.injEq]
  exact ⟨quadAt_of_numAt (payload_place laid wide fits 0 rfl rfl), quadAt_of_numAt (payload_place laid wide fits 1 rfl rfl), trivial,
    bitAt_of_bitsAt (by rw [bitsAt, middle]; omega), trivial, quadAt_of_numAt (payload_place laid wide fits 3 rfl rfl),
    quadAt_of_numAt (payload_place laid wide fits 4 rfl rfl), fourAt_of_numAt (payload_place laid wide fits 5 rfl rfl)
      (payload_place laid wide fits 6 rfl rfl) (payload_place laid wide fits 7 rfl rfl) (payload_place laid wide fits 8 rfl rfl),
    wordAt_of_numAt (payload_place laid wide fits 9 rfl rfl), payload_result laid wide rfl⟩

/-! ### CAB_ANNOUNCE and PRESENCE -/

def cabFields (a : CabAnnounce) : List RangedField :=
  [plainField 1 (codeOf jobStateTable a.jobState * 64 + a.activity.toNat), plainField 2 a.jobNumber.toNat,
    plainField 2 a.epoch.toNat]

theorem cabFields_widths (a : CabAnnounce) : (cabFields a).map (·.1) = [1, 2, 2] := rfl

theorem cabPayload_fields (a : CabAnnounce) : cabPayload a = fieldBytes (cabFields a) ++ [] := by
  simp [cabPayload, cabFields, fieldBytes, plainField, be_one]

theorem jobStateTable_small (x : JobState) : codeOf jobStateTable x < 4 := by cases x <;> decide

theorem cabFields_fit (a : CabAnnounce) : ∀ r ∈ cabFields a, r.2.2.2 < 256 ^ r.1 := by
  have state := jobStateTable_small a.jobState
  have activity := a.activity.isLt
  simp only [cabFields, List.forall_mem_cons, plainField]
  exact ⟨by omega, a.jobNumber.isLt, a.epoch.isLt, nofun⟩

theorem cabOf_cabPayload (a : CabAnnounce) : cabOf (cabPayload a) = some a := by
  have laid := cabPayload_fields a
  have wide := cabFields_widths a
  have fits := cabFields_fit a
  have first := payload_place laid wide fits (i := 0) 0 rfl rfl
  have state := jobStateTable_small a.jobState
  have activity := a.activity.isLt
  have code : bitsAt (cabPayload a) 0 6 2 = codeOf jobStateTable a.jobState := by rw [bitsAt, first]; omega
  have shown : BitVec.ofNat 3 (bitsAt (cabPayload a) 0 0 3) = a.activity :=
    ofNat_of_toNat (by rw [bitsAt, first]; omega)
  rw [cabOf, code, jobStateTable_code, shown, wordAt_of_numAt (payload_place laid wide fits (i := 1) 1 rfl rfl),
    wordAt_of_numAt (payload_place laid wide fits (i := 3) 2 rfl rfl)]
  rfl

/-- The code of a hold reason, 0 while there is none. -/
def reasonCode (r : Option HoldReason) : Nat :=
  match r with
  | none => 0
  | some r => codeOf holdReasonTable r

def presenceFields (p : Presence) : List RangedField :=
  [plainField 1 (roleNibble p.held * 16 + roleNibble p.yielded),
    plainField 1 (p.running.toNat * 128 + p.holding.isSome.toNat * 64 + reasonCode p.holding), plainField 2 p.epoch.toNat]

theorem presenceFields_widths (p : Presence) : (presenceFields p).map (·.1) = [1, 1, 2] := rfl

theorem presencePayload_fields (p : Presence) : presencePayload p = fieldBytes (presenceFields p) ++ [] := by
  obtain ⟨held, yielded, running, holding, epoch⟩ := p
  cases holding <;> simp [presencePayload, presenceFields, fieldBytes, plainField, be_one, reasonCode]

theorem roleNibble_small (r : RoleSet) : roleNibble r < 16 := by
  have mud := r.mud.toNat_le
  have handler := r.handler.toNat_le
  have head := r.head.toNat_le
  have cab := r.cab.toNat_le
  rw [roleNibble]
  omega

theorem reasonCode_small (r : Option HoldReason) : reasonCode r < 4 := by
  rcases r with _ | r
  · decide
  · cases r <;> decide

theorem presenceFields_fit (p : Presence) : ∀ r ∈ presenceFields p, r.2.2.2 < 256 ^ r.1 := by
  have held := roleNibble_small p.held
  have yielded := roleNibble_small p.yielded
  have running := p.running.toNat_le
  have holding := p.holding.isSome.toNat_le
  have code := reasonCode_small p.holding
  simp only [presenceFields, List.forall_mem_cons, plainField]
  exact ⟨by omega, by omega, p.epoch.isLt, nofun⟩

theorem presenceOf_presencePayload (p : Presence) : presenceOf (presencePayload p) = some p := by
  have laid := presencePayload_fields p
  have wide := presenceFields_widths p
  have fits := presenceFields_fit p
  have first := payload_place laid wide fits (i := 0) 0 rfl rfl
  have second := payload_place laid wide fits (i := 1) 1 rfl rfl
  have held := roleNibble_small p.held
  have yielded := roleNibble_small p.yielded
  have running := p.running.toNat_le
  have holding := p.holding.isSome.toNat_le
  have code := reasonCode_small p.holding
  have high : bitsAt (presencePayload p) 0 4 4 = roleNibble p.held := by rw [bitsAt, first]; omega
  have low : bitsAt (presencePayload p) 0 0 4 = roleNibble p.yielded := by rw [bitsAt, first]; omega
  have reason : bitsAt (presencePayload p) 1 0 2 = reasonCode p.holding := by rw [bitsAt, second]; omega
  have runs : bitAt (presencePayload p) 1 7 = p.running := bitAt_of_bitsAt (by rw [bitsAt, second]; omega)
  have holds : bitAt (presencePayload p) 1 6 = p.holding.isSome := bitAt_of_bitsAt (by rw [bitsAt, second]; omega)
  rw [presenceOf, high, low, reason, runs, holds, roleSetOf_roleNibble, roleSetOf_roleNibble,
    wordAt_of_numAt (payload_place laid wide fits (i := 2) 2 rfl rfl)]
  obtain ⟨roles, given, run, holder, epoch⟩ := p
  rcases holder with _ | r
  · rfl
  · rw [reasonCode, holdReasonTable_code]
    rfl

end Sys2Proof.Machine
end

section
/-! SUPPORT. A frame through the receiver, and the parts of the bits driven (R19 to R31). For O60. -/

namespace Sys2Proof.Machine

/-! ### Frames as payloads (R25, R26, R171) -/

/-- A directive's argument has at most four bytes. -/
def shortArg (f : Frame) : Prop := ∀ d, f = .directive d → d.arg.length ≤ 4

theorem frameOf_payload (f : Frame) : frameOf (frameKind f) (payload f) = some f := by
  cases f with
  | holdSet reason => rw [payload, frameKind, frameOf, byteAt_head]
  | holdRelease => rfl
  | directive d =>
    obtain ⟨role, code, arg⟩ := d
    rw [payload, frameKind, frameOf, byteAt_head, byteAt_succ (i := 0), byteAt_head]
    rfl
  | announce a =>
    cases a with
    | mud a => exact congrArg (Option.map (Frame.announce ∘ Announcement.mud)) (mudOf_mudPayload a)
    | handler a => exact congrArg (fun h => some (Frame.announce (.handler h))) (handlerOf_handlerPayload a)
    | head a => exact congrArg (Option.map (Frame.announce ∘ Announcement.head)) (headOf_headPayload a)
    | cab a => exact congrArg (Option.map (Frame.announce ∘ Announcement.cab)) (cabOf_cabPayload a)
  | presence p => exact congrArg (Option.map Frame.presence) (presenceOf_presencePayload p)

theorem frameKind_small (f : Frame) : frameKind f < 8 := by
  rcases f with _ | _ | _ | a | _
  case announce => cases a <;> simp [frameKind]
  all_goals simp [frameKind]

theorem resultField_length (r : Option DirectiveResult) : (resultField r).length = 3 := by cases r <;> rfl

theorem payload_length (f : Frame) (short : shortArg f) : lengthAllowed (frameKind f) (payload f).length = true := by
  cases f with
  | holdSet reason => rfl
  | holdRelease => rfl
  | directive d =>
    have few := short d rfl
    simp [payload, frameKind, lengthAllowed]
    omega
  | announce a =>
    cases a with
    | mud a => simp [payload, frameKind, lengthAllowed, announcementPayload, mudPayload, fourField, resultField_length]
    | handler a => simp [payload, frameKind, lengthAllowed, announcementPayload, handlerPayload, resultField_length]
    | head a => simp [payload, frameKind, lengthAllowed, announcementPayload, headPayload, fourField, resultField_length]
    | cab a => simp [payload, frameKind, lengthAllowed, announcementPayload, cabPayload]
  | presence p => simp [payload, frameKind, lengthAllowed, presencePayload]

theorem lengthAllowed_most {kind length : Nat} (allowed : lengthAllowed kind length = true) : length ≤ 48 := by
  unfold lengthAllowed at allowed
  split at allowed <;> simp at allowed <;> omega

/-- Every payload of a known kind has contents, whatever codes it carries. -/
theorem frameOf_some {kind : Nat} (bytes : List Byte) (known : kind < 8) : ∃ f, frameOf kind bytes = some f := by
  have code {α : Type} (table : List α) (i n : Nat) (lo : Nat) (long : table.length = 2 ^ n) :
      ∃ x, table[bitsAt bytes i lo n]? = some x :=
    ⟨_, List.getElem?_eq_getElem (by rw [long]; exact Nat.mod_lt _ (Nat.two_pow_pos n))⟩
  match kind, known with
  | 0, _ | 1, _ | 2, _ | 4, _ => exact ⟨_, rfl⟩
  | 3, _ =>
    obtain ⟨x, found⟩ := code conditionTable 0 2 3 rfl
    rw [frameOf, mudOf, found]
    exact ⟨_, rfl⟩
  | 5, _ =>
    obtain ⟨x, found⟩ := code trackingTable 8 2 6 rfl
    obtain ⟨y, rock⟩ := code lithologyTable 8 4 0 rfl
    rw [frameOf, headOf, found, rock]
    exact ⟨_, rfl⟩
  | 6, _ =>
    obtain ⟨x, found⟩ := code jobStateTable 0 2 6 rfl
    rw [frameOf, cabOf, found]
    exact ⟨_, rfl⟩
  | 7, _ =>
    obtain ⟨x, found⟩ := code holdReasonTable 1 2 0 rfl
    rw [frameOf, presenceOf, found]
    exact ⟨_, rfl⟩

/-! ### Through the receiver (R25) -/

theorem frameBits_fields (source : Station) (f : Frame) :
    frameBits source f = bitsOf 5 (frameKind f) ++ (bitsOf 3 source.val ++ (bitsOf 6 (payload f).length ++
      ((payload f).flatMap (fun b => bitsOf 8 b.toNat) ++
        (bitsOf 16 (crc (crcInput source (frameKind f) (payload f))).toNat ++ [])))) := by
  have start : (frameKind f).testBit 4 = false :=
    Nat.testBit_lt_two_pow (Nat.lt_of_lt_of_le (frameKind_small f) (by decide))
  have five : bitsOf 5 (frameKind f) = (frameKind f).testBit 4 :: bitsOf 4 (frameKind f) := rfl
  rw [frameBits, five, start]
  simp only [List.append_assoc, List.append_nil, List.cons_append]

theorem receive_lineBits (source : Station) (f : Frame) (short : shortArg f) :
    receive (lineBits source f) = .valid source (frameKind f) (payload f) := by
  have allowed := payload_length f short
  have most := lengthAllowed_most allowed
  have known := frameKind_small f
  have start := Reader.start_before (frameBits source f) (List.replicate 8 true)
  rw [frameBits_fields] at start
  obtain ⟨r1, kind, before1⟩ := Reader.field_before 5 (frameKind f) 0 _ _ _ start
  obtain ⟨r2, station, before2⟩ := Reader.field_before 3 source.val 0 r1 _ _ before1
  obtain ⟨r3, length, before3⟩ := Reader.field_before 6 (payload f).length 0 r2 _ _ before2
  obtain ⟨r4, bytes, before4⟩ := Reader.bytes_before (payload f) r3 _ _ before3
  obtain ⟨r5, check, before5⟩ := Reader.field_before 16 (crc (crcInput source (frameKind f) (payload f))).toNat 0 r4 _ _
    before4
  obtain ⟨r6, ended, rest⟩ := Reader.unstuff_end r5 _ before5
  rw [Nat.zero_mul, Nat.zero_add, Nat.mod_eq_of_lt (by omega)] at kind length
  rw [Nat.zero_mul, Nat.zero_add, Nat.mod_eq_of_lt (b := 2 ^ 3) source.isLt] at station
  rw [Nat.zero_mul, Nat.zero_add, Nat.mod_eq_of_lt (BitVec.isLt _)] at check
  have tail : receiveTail source (frameKind f) (payload f) r4 = .valid source (frameKind f) (payload f) := by
    rw [receiveTail, check]
    dsimp only
    rw [if_pos rfl, ended]
    dsimp only
    rw [rest]
    rfl
  have number : Fin.ofNat 8 source.val = source := Fin.ext (Nat.mod_eq_of_lt source.isLt)
  have body : receiveBody (frameKind f) r1 = .valid source (frameKind f) (payload f) := by
    rw [receiveBody, station]
    dsimp only
    rw [length]
    dsimp only
    rw [if_neg (by omega), if_neg (by simp [allowed]), bytes]
    dsimp only
    rw [number, tail]
  rw [← frameBits_fields] at kind
  rw [receive, lineBits, kind]
  dsimp only
  rw [if_neg (by omega), body]

theorem delimited_valid {n : Nat} {bits : List Level} {ok : Reception} {source : Station} {kind : Nat} {bytes : List Byte}
    (valid : delimited n bits ok = .valid source kind bytes) : ok = .valid source kind bytes := by
  induction n generalizing bits with
  | zero => exact valid
  | succ n ih =>
    rcases bits with _ | ⟨b, bs⟩
    · nomatch valid
    · cases b
      · nomatch valid
      · exact ih valid

theorem receiveTail_kind {station source : Station} {k kind : Nat} {given bytes : List Byte} {r : Reader}
    (valid : receiveTail station k given r = .valid source kind bytes) : k = kind := by
  unfold receiveTail at valid
  split at valid
  case h_1 =>
    split at valid
    case isTrue =>
      split at valid
      case h_1 =>
        injection delimited_valid valid
      all_goals nomatch valid
    case isFalse => nomatch valid
  all_goals nomatch valid

theorem receiveBody_kind {source : Station} {k kind : Nat} {bytes : List Byte} {r : Reader}
    (valid : receiveBody k r = .valid source kind bytes) : k = kind := by
  unfold receiveBody at valid
  split at valid
  case h_1 =>
    split at valid
    case h_1 =>
      split at valid
      case isTrue => nomatch valid
      case isFalse =>
        split at valid
        case isTrue => nomatch valid
        case isFalse =>
          split at valid
          case h_1 => exact receiveTail_kind valid
          all_goals nomatch valid
    all_goals nomatch valid
  all_goals nomatch valid

theorem receive_kind {bits : List Level} {source : Station} {kind : Nat} {bytes : List Byte}
    (valid : receive bits = .valid source kind bytes) : kind < 8 := by
  unfold receive at valid
  split at valid
  case h_1 k r read =>
    split at valid
    · nomatch valid
    · rw [← receiveBody_kind valid]
      omega
  all_goals nomatch valid

theorem frameBits_length (source : Station) (f : Frame) : (frameBits source f).length = 30 + 8 * (payload f).length := by
  rw [frameBits_fields]
  simp [List.length_flatMap, List.map_const', List.sum_replicate_nat]
  omega

theorem lineBits_length (source : Station) (f : Frame) (short : shortArg f) : (lineBits source f).length ≤ 525 := by
  have most := lengthAllowed_most (payload_length f short)
  have stuffed := stuff_length (frameBits source f)
  rw [frameBits_length] at stuffed
  rw [lineBits, List.length_append, List.length_replicate]
  omega

/-! ### The parts of the bits driven (R29) -/

theorem markedBits_snd (parts : List BitPart) {bits : List Level} (long : parts.length ≤ bits.length) :
    (markedBits parts bits).map (·.2) = parts ++ List.replicate (bits.length - parts.length) .content := by
  induction bits generalizing parts with
  | nil =>
    obtain rfl : parts = [] := by simpa using long
    rfl
  | cons b bs ih =>
    cases parts with
    | nil =>
      rw [markedBits, List.map_cons, List.tail_nil, ih [] (Nat.zero_le _)]
      rfl
    | cons p ps =>
      rw [markedBits, List.map_cons, List.tail_cons, ih ps (by simpa using long)]
      simp

/-- Taking the inserted bits out leaves the bits that were stuffed. -/
theorem stuffMarked_unstuffed (last : Level) (run : Nat) {bits : List (Level × BitPart)} (plain : ∀ b ∈ bits, b.2 ≠ .stuff) :
    (stuffMarked last run bits).filter (·.2 != .stuff) = bits := by
  induction bits generalizing last run with
  | nil => rfl
  | cons b bs ih =>
    obtain ⟨level, part⟩ := b
    have kept : part ≠ .stuff := plain (level, part) List.mem_cons_self
    have rest : ∀ b ∈ bs, b.2 ≠ .stuff := fun b inside => plain b (List.mem_cons_of_mem _ inside)
    rw [stuffMarked]
    split <;> simp [kept, ih _ _ rest]

theorem markedBits_plain {bits : List Level} (long : 8 ≤ bits.length) :
    ∀ b ∈ markedBits bitParts bits, b.2 ≠ .stuff := by
  intro b inside stuffed
  have part : b.2 ∈ (markedBits bitParts bits).map (·.2) := List.mem_map_of_mem inside
  rw [markedBits_snd bitParts long, stuffed] at part
  simp [bitParts] at part

theorem drivenBits_unstuffed (own : Station) (f : Frame) :
    (drivenBits own f).filter (·.2 != .stuff) =
      markedBits bitParts (frameBits own f) ++ List.replicate 8 (true, .delimiter) := by
  have long : 8 ≤ (frameBits own f).length := by rw [frameBits_length]; omega
  rw [drivenBits, List.filter_append, stuffMarked_unstuffed _ _ (markedBits_plain long)]
  rfl

theorem State.sentRow_owner {own : Station} {f : Frame} {s : State} (line : s.link.line = .owner)
    (sending : s.link.sending = some f) (station : s.station = some own) (levels : List Level) :
    s.sentRow levels = Machine.sentRow (drivenBits own f) levels := by
  rw [State.sentRow, line, sending, station]

end Sys2Proof.Machine

namespace Sys2Proof

open Machine

/-- Settles O60: the receiver follows the stuffed fields; the first mismatch decides what is read back. -/
theorem framesCrossTheLine : Obligations.FramesCrossTheLine := by
  unfold Obligations.FramesCrossTheLine
  refine ⟨fun source f short => ⟨?_, lineBits_length source f short⟩, fun bits source kind bytes valid => ?_,
    fun own f more s => ?_⟩
  · rw [received, receive_lineBits source f short]
    exact congrArg (Option.map _) (frameOf_payload f)
  · obtain ⟨f, found⟩ := frameOf_some bytes (receive_kind valid)
    exact ⟨f, found, by rw [received, valid]; exact congrArg (Option.map _) found⟩
  · have long : 8 ≤ (frameBits own f).length := by rw [frameBits_length]; omega
    refine ⟨drivenBits_fst own f, ?_, ?_, fun other => ?_, fun line sending station => ⟨?_, ?_⟩⟩
    · rw [drivenBits_unstuffed, List.map_append, markedBits_fst]
      rfl
    · rw [drivenBits_unstuffed, List.map_append, markedBits_snd bitParts long]
      rfl
    · rw [State.sentRow]
      split
      case h_1 line _ _ => exact absurd line other
      case h_2 => rfl
    · rw [State.sentRow_owner line sending station, ← drivenBits_fst]
      have agrees := sentRow_agrees (drivenBits own f) [] more
      rw [List.append_nil] at agrees
      rw [agrees, Machine.sentRow]
    · intro before sent part after read split differs
      rw [State.sentRow_owner line sending station, split, sentRow_mismatch _ _ _ _ _ _ differs]
      exact (apply_ite some _ _ _).symm

end Sys2Proof
end

section
/-! SUPPORT. The read-outs and the bodies they carry (R170 to R173), for O10. -/

namespace Sys2Proof.Machine

section

variable {s : State}

/-! ### The requests (R11, R67, R143, R151) -/

theorem exec_readPeer {station : Byte} {st : Station} (s : State) (number : station.toNat = st.val) :
    exec (.readPeer station) s = .next (s.replied (.readPeer station) ⟨.ok, s.peerBody st⟩) := by
  have request : readPeerRequest station s = (okWith (s.peerBody st), s) := by
    rw [readPeerRequest, stationOf_val number]
  exact congrArg (answered _) request

theorem exec_readPeer_none {station : Byte} (s : State) (large : 8 ≤ station.toNat) :
    exec (.readPeer station) s = .next (s.replied (.readPeer station) ⟨.badValue, [1#8]⟩) := by
  have request : readPeerRequest station s = (badValue 1, s) := by
    rw [readPeerRequest, stationOf_eq_none large]
  exact congrArg (answered _) request

theorem State.roleRequest_of_active {r : Role} (f : State → Answered) (active : s.active r = true) :
    s.roleRequest r f = f s := by
  simp only [State.active, Bool.and_eq_true, Bool.not_eq_true'] at active
  exact State.roleRequest_active s r f active.1 active.2

theorem exec_readRack (active : s.active .handler = true) :
    exec .readRack s = .next (s.replied .readRack ⟨.ok, rackBody s.inventory⟩) :=
  congrArg (answered _) (State.roleRequest_of_active _ active)

theorem exec_readString (active : s.active .handler = true) :
    exec .readString s = .next (s.replied .readString ⟨.ok, stringBody s.inventory⟩) :=
  congrArg (answered _) (State.roleRequest_of_active _ active)

theorem exec_readCursor (active : s.active .head = true) :
    exec .readCursor s = .next (s.replied .readCursor ⟨.ok, be 4 s.log.cursor⟩) :=
  congrArg (answered _) (State.roleRequest_of_active _ active)

theorem exec_readMeters (active : s.active .cab = true) :
    exec .readMeters s = .next (s.replied .readMeters ⟨.ok, s.metersBody⟩) :=
  congrArg (answered _) (State.roleRequest_of_active _ active)

/-! ### Lengths -/

theorem flatMap_length_const {α β : Type} {f : α → List β} {n : Nat} (l : List α) (each : ∀ x, (f x).length = n) :
    (l.flatMap f).length = n * l.length := by
  simp [List.length_flatMap, each, List.map_const', List.sum_replicate_nat, Nat.mul_comm]

theorem flagByte_length (b : Bool) : (flagByte b).length = 1 := rfl

theorem codeByte_length {α : Type} [DecidableEq α] (table : List α) (x : α) : (codeByte table x).length = 1 := rfl

theorem rodField_length (r : Option Rod) : (rodField r).length = 9 := by
  cases r <;> rfl

theorem rackBody_length (v : Inventory) : (rackBody v).length = 543 := by
  simp only [rackBody, List.length_append, be_length, flatMap_length_const _ rodField_length, Vector.length_toList]

theorem stringBody_length (v : Inventory) : (stringBody v).length = 21 + 9 * v.string.length := by
  simp only [stringBody, beSigned, List.length_append, be_length, flagByte_length, rodField_length,
    flatMap_length_const v.string fun r => rodField_length (some r)]

theorem accumulatorField_length (a : Accumulator) : (accumulatorField a).length = 6 := be_length 6 _

theorem summaryBody_length (j : JobRecord) : (summaryBody j).length = 187 := by
  simp only [summaryBody, List.length_append, be_length, timeField_length, Vector.length_toList,
    flatMap_length_const _ accumulatorField_length, flatMap_length_const _ (be_length 4)]

theorem baselineField_length (b : Option Nat × Nat) : (baselineField b).length = 4 := by
  obtain ⟨_ | v, i⟩ := b <;> exact be_length 4 _

theorem windowField_length (w : Option (Nat × Nat)) : (windowField w).length = 3 := by cases w <;> rfl

theorem State.metersBody_length (s : State) : s.metersBody.length = 264 := by
  simp only [State.metersBody, List.length_append, be_length, summaryBody_length, codeByte_length, flagByte_length,
    windowField_length, flatMap_length_const _ (be_length 4), flatMap_length_const _ (be_length 1),
    flatMap_length_const _ baselineField_length, List.length_zipIdx, Vector.length_toList]

/-! ### Lists of names (R170) -/

/-- The codes of the names that are in a set. -/
def chosenCodes (names : List (Bool × Nat)) : List Nat := (names.filter (·.1)).map (·.2)

theorem chosenCodes_cons (b : Bool) (code : Nat) (names : List (Bool × Nat)) :
    chosenCodes ((b, code) :: names) = (if b then [code] else []) ++ chosenCodes names := by
  cases b <;> rfl

theorem reasonSetField_eq (r : ReasonSet) : reasonSetField r =
    listField (be 1) (chosenCodes [(r.driller, 0), (r.flowGain, 1), (r.handlingFault, 2), (r.recovery, 3)]) := by
  obtain ⟨driller, gain, fault, recovery⟩ := r
  cases driller <;> cases gain <;> cases fault <;> cases recovery <;> rfl

theorem configuredGroups_eq (n : Node) : configuredGroups n =
    chosenCodes [(n.node.isSome, 0), (n.mud.isSome, 1), (n.handler.isSome, 2), (n.head.isSome, 3), (n.cab.isSome, 4)] := by
  simp only [configuredGroups, chosenCodes_cons, List.append_assoc]
  simp [chosenCodes]

theorem dueKinds_eq (d : Due) : dueKinds d =
    chosenCodes [(d.mud, 3), (d.handler, 4), (d.head, 5), (d.cab, 6), (d.presence, 7)] := by
  simp only [dueKinds, chosenCodes_cons, List.append_assoc]
  simp [chosenCodes]

theorem listField_map {α β : Type} (f : β → List Byte) (g : α → β) (l : List α) :
    listField f (l.map g) = listField (fun x => f (g x)) l := by
  rw [listField, List.length_map, List.flatMap_map]
  rfl

/-! ### STATUS, part by part -/

theorem State.listenLeft_eq (s : State) :
    s.listenLeft = (s.timers.listen.map fun t => (t - s.now + 12499) / 12500).getD 0 := by
  unfold State.listenLeft
  cases s.timers.listen <;> rfl

theorem State.nodePart_eq (s : State) : s.nodePart =
    codeByte nodeStateTable s.node.state ++ stationField (s.node.node.map (·.station)) ++ be 1 (roleNibble s.rolesHeld) ++
      be 1 (roleNibble s.node.yielded) ++
      listField (be 1) (chosenCodes [(s.node.node.isSome, 0), (s.node.mud.isSome, 1), (s.node.handler.isSome, 2),
        (s.node.head.isSome, 3), (s.node.cab.isSome, 4)]) ++
      be 1 ((s.timers.listen.map fun t => (t - s.now + 12499) / 12500).getD 0) ++ be 2 s.node.epoch.toNat ++
      clockField s.clock.time ++ flagByte s.node.foundInvalid := by
  rw [State.nodePart, configuredGroups_eq, State.listenLeft_eq]
  rfl

theorem clockField_none : clockField none = [0#8, 0xFF#8, 0xFF#8, 0xFF#8, 0xFF#8, Config.unsetSecond] := rfl

theorem Link.part_eq (k : Link) : k.part =
    codeByte lineStateTable k.line ++ flagByte k.mute.isSome ++ optionalField (codeByte muteCauseTable) k.mute ++
      be 1 k.faultCount ++ be 1 k.errorCount ++ be 1 k.queue.length ++
      optionalField (fun h => be 1 (if h = .set then 0 else 1)) k.holdFrame ++
      listField (be 1) (chosenCodes [(k.due.mud, 3), (k.due.handler, 4), (k.due.head, 5), (k.due.cab, 6),
        (k.due.presence, 7)]) := by
  have code : holdFrameCode = fun h => if h = .set then 0 else 1 := by
    funext h
    cases h <;> rfl
  rw [Link.part, dueKinds_eq, code]

theorem State.mem_entriesShown (s : State) (st : Station) (reason : Byte) (state : HoldState) :
    (st, reason, state) ∈ s.entriesShown ↔ s.entryShown st = some (reason, state) := by
  simp only [State.entriesShown, List.mem_filterMap, Option.map_eq_some_iff, Prod.mk.injEq]
  constructor
  · rintro ⟨other, -, shown, found, rfl, rfl⟩
    exact found
  · intro found
    exact ⟨st, mem_stations st, _, found, rfl, rfl⟩

theorem State.entryShown_iff (s : State) (st : Station) (reason : Byte) (state : HoldState) :
    s.entryShown st = some (reason, state) ↔
      if s.station = some st ∧ s.holds.reasons ≠ .empty then
        state = .active ∧ ∃ r, s.holds.reasons.first = some r ∧ reason = r.bits
      else ∃ e, s.holds.others[st] = some e ∧ e.reason = reason ∧ e.state = state := by
  unfold State.entryShown
  split
  · simp only [Option.map_eq_some_iff, Prod.mk.injEq]
    constructor
    · rintro ⟨r, first, rfl, rfl⟩
      exact ⟨rfl, r, first, rfl⟩
    · rintro ⟨rfl, r, first, rfl⟩
      exact ⟨r, first, rfl, rfl⟩
  · simp only [entryFace, Option.map_eq_some_iff, Prod.mk.injEq]

theorem State.entriesShown_sorted (s : State) : (s.entriesShown.map (·.1)).Pairwise (· < ·) := by
  have sorted : stations.Pairwise (· < ·) := by decide
  rw [List.pairwise_map, State.entriesShown, List.pairwise_filterMap]
  refine sorted.imp fun {a b} below x first y second => ?_
  obtain ⟨_, -, rfl⟩ := Option.map_eq_some_iff.1 first
  obtain ⟨_, -, rfl⟩ := Option.map_eq_some_iff.1 second
  exact below

theorem State.suctionVolume_unset (unset : s.node.mud = none) : s.suctionVolume = none := by
  rw [State.suctionVolume, unset]

theorem State.suctionVolume_pit {m : MudConfig} {i : Fin 4} (group : s.node.mud = some m) (pit : m.suctionPit = i.val + 1) :
    s.suctionVolume = s.bal.pits[i].level.map fun level => level * m.areas[i] / 10000 := by
  have place : m.suctionPit - 1 = i.val := by omega
  rw [State.suctionVolume, group]
  simp [place]

/-- The pits in use. -/
def State.activePits (s : State) : List (Fin 4) :=
  (s.node.mud.map fun m => (List.finRange 4).filter fun i => i.val < m.pits).getD []

theorem State.activeRecords_eq (s : State) : s.activeRecords = s.activePits.map fun i => s.bal.pits[i] := by
  unfold State.activeRecords State.activePits
  cases s.node.mud <;> rfl

theorem State.balancePart_eq (s : State) : s.balancePart =
    codeByte conditionTable s.bal.announced ++ codeByte conditionTable s.bal.underlying ++
      beSigned 6 s.bal.sum ++ be 1 (s.bal.window.toList.countP (·.degraded)) ++
      s.bal.window.toList.flatMap (fun w => beSigned 4 w.value ++ flagByte w.degraded) ++
      be 1 s.bal.position.val ++ beSigned 4 s.bal.last ++ flagByte s.bal.lastSaturated ++
      listField (fun i => optionalField (be 2) s.bal.pits[i].level ++ optionalField (be 2) s.bal.pits[i].inUse ++
        flagByte s.bal.pits[i].held ++ flagByte s.bal.pits[i].holdEnded) s.activePits ++
      be 4 s.totalVolume ++ be 4 s.bal.prevD ++ be 4 s.bal.prevH ++ flagByte s.bal.depthHeld ++
      beSigned 1 s.bal.steelResidue ++ beSigned 1 s.bal.holeResidue ++ be 6 s.bal.gainTotal ++ be 6 s.bal.lossTotal ++
      be 2 s.bal.water := by
  rw [State.balancePart, State.activeRecords_eq, listField_map]
  rfl

theorem State.totalVolume_unset (unset : s.node.mud = none) : s.totalVolume = 0 := by
  rw [State.totalVolume, unset]

theorem State.totalVolume_set {m : MudConfig} (group : s.node.mud = some m) :
    s.totalVolume = (s.activePits.map fun i => s.bal.pits[i].inUse.getD 0 * m.areas[i]).sum := by
  rw [State.totalVolume, State.activePits, group]
  rfl

theorem Inventory.serviceableCount_eq (v : Inventory) :
    v.serviceableCount = v.rack.toList.countP fun r => r.any (·.status = .serviceable) := by
  refine List.countP_congr fun r _ => ?_
  cases r <;> simp [rodServiceable]

theorem Inventory.emptyCount_eq (v : Inventory) : v.emptyCount = v.rack.toList.countP fun r => r = none := by
  refine List.countP_congr fun r _ => ?_
  cases r <;> simp

theorem State.headHeight_set {d : HeadConfig} (group : s.node.head = some d) :
    s.headHeight = s.depth.count * d.micronsPerCount / 1000 := by
  rw [State.headHeight, group]
  rfl

theorem State.intervalLength_unset (unset : s.node.head = none) : s.intervalLength = 0 := by
  rw [State.intervalLength, unset]

theorem State.intervalLength_set {d : HeadConfig} (group : s.node.head = some d) :
    s.intervalLength = d.intervalLength := by
  rw [State.intervalLength, group]

theorem StrataLog.stored_empty {g : StrataLog} (empty : g.store = []) : g.oldestStored = none ∧ g.newestStored = none :=
  ⟨if_pos empty, if_pos empty⟩

theorem StrataLog.stored_some {g : StrataLog} (stored : g.store ≠ []) :
    g.oldestStored = some (g.current.sequence - g.store.length) ∧ g.newestStored = some (g.current.sequence - 1) :=
  ⟨if_neg stored, if_neg stored⟩

/-! ### Payloads and records (R171, R172) -/

theorem State.peerBody_eq (s : State) (st : Station) : s.peerBody st =
    slotField presencePayload s.peers[st].presence ++ slotField mudPayload s.peers[st].mud ++
      slotField handlerPayload s.peers[st].handler ++ slotField headPayload s.peers[st].head ++
      slotField cabPayload s.peers[st].cab ++ stationField (s.owner .mud) ++ stationField (s.owner .handler) ++
      stationField (s.owner .head) ++ stationField (s.owner .cab) := by
  simp only [State.peerBody, roleTable, List.flatMap_cons, List.flatMap_nil, List.append_nil, List.append_assoc]

theorem slotField_unheard {α : Type} (f : α → List Byte) (age : Nat) :
    slotField f ⟨.unheard, age, none⟩ = 0#8 :: be 2 age :=
  List.append_nil (codeByte freshnessTable .unheard ++ be 2 age)

theorem slotField_heard {α : Type} (f : α → List Byte) {heard : Freshness} (age : Nat) (content : α)
    (other : heard ≠ .unheard) :
    slotField f ⟨heard, age, some content⟩ = codeByte freshnessTable heard ++ be 2 age ++ f content := by
  rw [slotField]
  exact congrArg (_ ++ ·) (if_neg other)

theorem presencePayload_eq (p : Presence) : presencePayload p =
    [BitVec.ofNat 8 (roleNibble p.held * 16 + roleNibble p.yielded),
      BitVec.ofNat 8 (p.running.toNat * 128 + ((p.holding.map fun r => 64 + codeOf holdReasonTable r).getD 0))] ++
      be 2 p.epoch.toNat := by
  obtain ⟨held, yielded, running, holding, epoch⟩ := p
  cases holding <;> simp [presencePayload, Nat.add_assoc]

theorem fourField_eq (v : Vector (BitVec 32) 4) : fourField v = v.toList.flatMap fun x => be 4 x.toNat := by
  have listed : v.toList = [v[0], v[1], v[2], v[3]] := by
    refine List.ext_getElem (by simp) fun i small _ => ?_
    have inside : i < 4 := by simpa using small
    match i, inside with
    | 0, _ | 1, _ | 2, _ | 3, _ => simp
  simp [listed, fourField]

theorem rodField_some (r : Rod) : rodField (some r) = be 2 r.id ++
    be 1 ((if r.status = .worn then 128 else 0) + codeOf rodKindTable r.kind) ++ be 2 r.length ++ be 2 r.makeups ++
    be 2 (r.registeredAt.getD 0xFFFF) := by
  have status : codeOf rodStatusTable r.status * 128 = if r.status = .worn then 128 else 0 := by
    cases r.status <;> rfl
  rw [rodField, status]

/-! ### READ_METERS (R173) -/

theorem baselineField_eq (b : Option Nat × Nat) : baselineField b = be 4 (b.1.getD (Config.pendingBaseline b.2).toNat) := by
  obtain ⟨_ | v, i⟩ := b <;> rfl

theorem windowField_eq (w : Option (Nat × Nat)) :
    windowField w = (w.map fun w => be 1 w.1 ++ be 2 w.2).getD [0xFF#8, 0#8, 0#8] := by
  cases w <;> rfl

theorem State.metersBody_eq (s : State) : s.metersBody =
    summaryBody s.meter.job ++ codeByte jobStateTable s.meter.job.state ++ flagByte s.meter.job.summaryRead ++
      s.meter.job.timeResidues.toList.flatMap (be 4) ++ s.meter.job.bandResidues.toList.flatMap (be 1) ++
      s.meter.job.baselines.toList.zipIdx.flatMap (fun x => be 4 (x.1.getD (Config.pendingBaseline x.2).toNat)) ++
      be 2 (pendingMask s.meter.job.baselines.toList) ++ codeByte activityTable s.meter.activity ++
      ((s.meter.window.map fun w => be 1 w.1 ++ be 2 w.2).getD [0xFF#8, 0#8, 0#8]) ++ flagByte s.clock.time.isSome := by
  rw [State.metersBody, windowField_eq, funext baselineField_eq]

theorem pendingMask_testBit (bs : List (Option Nat)) (i : Nat) : (pendingMask bs).testBit i = (bs[i]? == some none) := by
  induction bs generalizing i with
  | nil => simp [pendingMask]
  | cons b bs ih =>
    have mask : pendingMask (b :: bs) = pendingMask bs * 2 + b.isNone.toNat := rfl
    cases i with
    | zero => cases b <;> simp [mask, Nat.testBit_zero]
    | succ i =>
      have half : (pendingMask bs * 2 + b.isNone.toNat) / 2 = pendingMask bs := by
        have := b.isNone.toNat_le
        omega
      rw [Nat.testBit_succ, mask, half, ih, List.getElem?_cons_succ]

end

end Sys2Proof.Machine
end

section
/-! SUPPORT. The codes of R170 and R166 by name, for O10. -/

namespace Sys2Proof.Machine

theorem nodeStateTable_codes : [NodeState.config, .listen, .running].map (codeByte nodeStateTable) = [[0#8], [1#8], [2#8]] := by
  decide

theorem freshnessTable_codes :
    [Freshness.unheard, .fresh, .stale, .lost].map (codeByte freshnessTable) = [[0#8], [1#8], [2#8], [3#8]] := by
  decide

theorem holdStateTable_codes : [HoldState.active, .orphaned].map (codeByte holdStateTable) = [[0#8], [1#8]] := by decide

theorem lineStateTable_codes : [LineState.unknown, .idle, .busy, .owner, .jammed].map (codeByte lineStateTable) =
    [[0#8], [1#8], [2#8], [3#8], [4#8]] := by decide

theorem muteCauseTable_codes : [MuteCause.faultLimit, .clash].map (codeByte muteCauseTable) = [[0#8], [1#8]] := by decide

theorem pumpStateTable_codes : [PumpState.off, .starting, .running, .stopping, .failed].map (codeByte pumpStateTable) =
    [[0#8], [1#8], [2#8], [3#8], [4#8]] := by decide

theorem circStateTable_codes : [CircState.stopped, .locked, .priming, .circulating, .bleeding].map (codeByte circStateTable) =
    [[0#8], [1#8], [2#8], [3#8], [4#8]] := by decide

theorem conditionTable_codes : [BalanceCondition.normal, .loss, .gain, .degraded].map (codeByte conditionTable) =
    [[0#8], [1#8], [2#8], [3#8]] := by decide

theorem seqStateTable_codes : [SeqState.idle, .active, .faulted, .transitHeld, .recover].map (codeByte seqStateTable) =
    [[0#8], [1#8], [2#8], [3#8], [4#8]] := by decide

theorem cycleKindTable_codes : [CycleKind.none, .makeup, .breakout].map (codeByte cycleKindTable) =
    [[0#8], [1#8], [2#8]] := by decide

theorem stepTable_codes : [none, some Step.slips, some .breakJoint, some .load, some .joint, some .lift, some .drive,
    some .store, some .release].map (codeByte stepTable) =
    [[0#8], [1#8], [2#8], [3#8], [4#8], [5#8], [6#8], [7#8], [8#8]] := by decide

theorem trackingTable_codes : [TrackingState.unhomed, .tracking, .frozen, .resync].map (codeByte trackingTable) =
    [[0#8], [1#8], [2#8], [3#8]] := by decide

theorem lithologyTable_codes : lithologyTable.map (codeOf lithologyTable) = List.range 16 := by decide

theorem scanStateTable_codes : [ScanState.none, .inFlight, .clean, .fault].map (codeByte scanStateTable) =
    [[0#8], [1#8], [2#8], [3#8]] := by decide

theorem jobStateTable_codes : [JobState.noJob, .opened, .suspended, .closed].map (codeByte jobStateTable) =
    [[0#8], [1#8], [2#8], [3#8]] := by decide

theorem activityTable_codes :
    [Activity.held, .down, .drilling, .tripping, .connecting, .circulating, .standby].map (codeByte activityTable) =
      [[0#8], [1#8], [2#8], [3#8], [4#8], [5#8], [6#8]] := by decide

theorem rodKindTable_codes : [RodKind.drillRod, .collar, .stabiliser, .reamer, .bit, .crossover].map (codeOf rodKindTable) =
    List.range 6 := by decide

theorem bandTable_codes : [Band.soft, .medium, .hard, .extraHard].map (codeOf bandTable) = List.range 4 := by decide

end Sys2Proof.Machine

namespace Sys2Proof

open Machine

/-- Settles O10: each request, each coding and each part by its own equation. -/
theorem readOutsChangeOnlyTheAnswer : Obligations.ReadOutsChangeOnlyTheAnswer := by
  unfold Obligations.ReadOutsChangeOnlyTheAnswer
  intro station s timeUp n k c b q v t g iv j chosen active
  refine ⟨rfl, fun st => exec_readPeer s, exec_readPeer_none s, fun acts => ⟨exec_readRack acts, exec_readString acts⟩,
    exec_readCursor, exec_readMeters, rackBody_length _, stringBody_length _, summaryBody_length _, s.metersBody_length,
    -- the codings
    fun w x y => ⟨rfl, rfl, rfl⟩, ⟨rfl, rfl⟩, fun α f x xs => ⟨rfl, rfl, rfl⟩, fun day minute => ⟨rfl, rfl⟩,
    fun st => ⟨rfl, rfl⟩, fun r => rfl, reasonSetField_eq, nodeStateTable_codes, freshnessTable_codes,
    holdStateTable_codes, lineStateTable_codes, muteCauseTable_codes, pumpStateTable_codes, circStateTable_codes,
    conditionTable_codes, seqStateTable_codes, cycleKindTable_codes, stepTable_codes, trackingTable_codes,
    ⟨lithologyTable_codes, rfl⟩, scanStateTable_codes, jobStateTable_codes, activityTable_codes, rfl, rfl, rfl, rfl, rfl,
    rfl,
    -- STATUS
    fun code content => rfl, rfl, s.nodePart_eq, clockField_none, fun now => rfl, k.part_eq, rfl,
    fun st reason state => (s.mem_entriesShown st reason state).trans (s.entryShown_iff st reason state),
    s.entriesShown_sorted, fun p => rfl, s.pumpTimerRuns_iff, rfl, State.suctionVolume_unset,
    fun m i => State.suctionVolume_pit, s.balancePart_eq, State.totalVolume_unset, fun m => State.totalVolume_set, rfl,
    rfl, fun code => rfl, ⟨v.serviceableCount_eq, v.emptyCount_eq, rfl, rfl⟩, rfl, fun d => State.headHeight_set, rfl, rfl,
    State.intervalLength_unset, fun d => State.intervalLength_set, StrataLog.stored_empty, StrataLog.stored_some,
    -- payloads and records
    s.peerBody_eq, fun α f heard age content => ⟨slotField_unheard f age, slotField_heard f age content⟩, rfl,
    fun r => rfl, presencePayload_eq, fun a => ?_, fun a => rfl, fun a => ?_, fun a => rfl, rfl, rfl, rfl, rodField_some,
    rodKindTable_codes, fun r => rfl, fun x => rfl, bandTable_codes, fun f => rfl,
    -- the bodies of R173
    rfl, s.metersBody_eq, pendingMask_testBit _⟩
  · rw [mudPayload, fourField_eq]
    rfl
  · rw [headPayload, fourField_eq]

end Sys2Proof
end
